-- ==== Sys2Proof/Word.lean ====
section
/-! DEFINITION. The plain words the node's records and frames are made of. -/

namespace Sys2Proof

/-- A byte of a frame's payload (R176). -/
abbrev Byte := BitVec 8

/-- A station address as a frame carries it, 5 bits (R167). -/
abbrev Addr := BitVec 5

/-- A mark number, 0 to 63 (R1). -/
abbrev MarkNo := Fin 64

/-- A demand channel number, 0 to 63 (R97). -/
abbrev ChannelNo := Fin 64

/-- A cue number, 0 to 255; 0 stands for any cue or for none (R38). -/
abbrev CueNo := BitVec 8

end Sys2Proof
end

