-- ==== Sys2Proof/Syntax.lean ====
section
/-! DEFINITION. The commands the node takes: one constructor of `Instr` for each row of the table of
operations and events. Frames carry the fields of R176, and a COMMAND frame its argument bytes as they
came. -/

namespace Sys2Proof

/-- What every COMMAND frame carries before its arguments (R154, R176). -/
structure CommandHeader where
  /-- the sender address of the identifier: the requester -/
  sender : Addr
  /-- the target address; 0 is every node -/
  target : Addr
  /-- returned as it came -/
  tag : Byte
  deriving DecidableEq, Repr

/-- The payload of a PACE frame (R176). -/
structure PacePayload where
  need : BitVec 16
  cue : CueNo
  armed : Bool
  running : Bool
  holding : Bool
  waiting : Bool
  limited : Bool
  destination : MarkNo
  deriving DecidableEq, Repr

/-- The payload of a STATE frame, its coded fields as they came (R176). -/
structure StatePayload where
  axisKind : BitVec 4
  /-- the station kind bit: set for HAND -/
  hand : Bool
  saving : Bool
  recentre : Bool
  limited : Bool
  axisState : BitVec 4
  cueResult : BitVec 4
  cue : CueNo
  cause : BitVec 4
  pendingArm : Bool
  positionPresent : Bool
  position : BitVec 32
  deriving DecidableEq, Repr

/-- The payload of a DEMAND frame (R97, R176). -/
structure DemandPayload where
  base : ChannelNo
  deadman : Bool
  value0 : BitVec 16
  value1 : BitVec 16
  value2 : BitVec 16
  deriving DecidableEq, Repr

/-- The two channel records a node may keep (R95). -/
inductive Channel where
  | demand
  | dial
  deriving DecidableEq, Repr

/-- A frame as it stands on the line, between its start bit and its end (R167). -/
structure RawFrame where
  /-- frame kind in the upper 3 bits, sender address in the lower 5 -/
  identifier : BitVec 8
  length : BitVec 4
  payload : List Byte
  check : BitVec 16
  deriving DecidableEq, Repr

/-- The commands: one constructor for each row of the table. -/
inductive Instr where
  /-- RESET: power-up or assertion of the reset line (R177) -/
  | reset
  /-- RESET_RELEASE: the line is released with the straps at these levels (R177, R178) -/
  | resetRelease (address : Addr) (setupStrap : Bool)
  /-- LOADING_END (R23) -/
  | loadingEnd
  /-- UPDATE: the update timer expires (R112) -/
  | update
  /-- PACE_INTERVAL: the PACE interval timer reaches 50 ms (R90) -/
  | paceInterval
  /-- DRIVE_LOST: the missed-feedback count reaches 8 (R137) -/
  | driveLost
  /-- FOLLOWING: the following-error count reaches 10 (R138) -/
  | following
  /-- FEEDBACK_RECORD (R132, R133) -/
  | feedbackRecord (seq : Byte) (ready : Bool) (position : BitVec 32)
  /-- STOP_INPUT_CHANGE: the stop input takes this level (R139) -/
  | stopInputChange (active : Bool)
  /-- SETTLE_TIMER_EXPIRY (R25) -/
  | settleTimerExpiry
  /-- ARM_EXPIRY (R41) -/
  | armExpiry
  /-- DEMAND_STALE (R99) -/
  | demandStale
  /-- CHANNEL_RELEASE of one record (R98) -/
  | channelRelease (channel : Channel)
  /-- GRAB: the grab timer reaches 200 ms (R109) -/
  | grab
  /-- PEER_LOST: the heard age of an entry reaches 1000 ms (R149) -/
  | peerLost (address : Addr)
  /-- LEASE_EXPIRY (R158) -/
  | leaseExpiry
  /-- SAVE_SLOT_WRITE_END (R164) -/
  | saveSlotWriteEnd
  /-- CONFIG_WRITE_END (R181) -/
  | configWriteEnd
  /-- STATE_INTERVAL (R174) -/
  | stateInterval
  /-- HALT_FRAME (R32) -/
  | haltFrame (sender : Addr) (cause : Byte)
  /-- ARM (R39) -/
  | arm (sender : Addr) (cue : CueNo) (first : MarkNo)
  /-- GO (R42) -/
  | go (sender : Addr) (cue : CueNo) (nest : Bool)
  /-- HOLD (R47) -/
  | hold (sender : Addr) (cue : CueNo)
  /-- RESUME (R47) -/
  | resume (sender : Addr) (cue : CueNo)
  /-- ABORT (R48) -/
  | abort (sender : Addr) (cue : CueNo)
  /-- RETURN (R49) -/
  | returnCue (sender : Addr) (cue : CueNo) (duration : BitVec 16)
  /-- DEMAND_FRAME (R97) -/
  | demandFrame (sender : Addr) (payload : DemandPayload)
  /-- PACE_FRAME (R147) -/
  | paceFrame (sender : Addr) (payload : PacePayload)
  /-- STATE_FRAME (R147) -/
  | stateFrame (sender : Addr) (payload : StatePayload)
  /-- REPLY_FRAME (R173) -/
  | replyFrame (sender : Addr) (requester : Addr) (tag : Byte) (result : Byte) (data : List Byte)
  /-- POLL; no target is an empty payload (R174) -/
  | poll (sender : Addr) (target : Option Addr)
  /-- MARK_OPEN (R159) -/
  | markOpen (header : CommandHeader) (args : List Byte)
  /-- MARK_SET (R160) -/
  | markSet (header : CommandHeader) (args : List Byte)
  /-- MARK_CLOSE (R161) -/
  | markClose (header : CommandHeader) (args : List Byte)
  /-- MARK_ERASE (R162) -/
  | markErase (header : CommandHeader) (args : List Byte)
  /-- MARK_READ (R163) -/
  | markRead (header : CommandHeader) (args : List Byte)
  /-- SAVE (R164) -/
  | save (header : CommandHeader) (args : List Byte)
  /-- PARK (R166) -/
  | park (header : CommandHeader) (args : List Byte)
  /-- WAKE (R166) -/
  | wake (header : CommandHeader) (args : List Byte)
  /-- CLEAR (R143) -/
  | clear (header : CommandHeader) (args : List Byte)
  /-- PEER_READ (R153) -/
  | peerRead (header : CommandHeader) (args : List Byte)
  /-- CONFIG_SET (R179) -/
  | configSet (header : CommandHeader) (args : List Byte)
  /-- CONFIG_DONE (R180) -/
  | configDone (header : CommandHeader) (args : List Byte)
  /-- UNKNOWN_COMMAND: a COMMAND frame whose code R176 does not list (R156) -/
  | unknownCommand (header : CommandHeader) (code : Byte) (args : List Byte)
  /-- FRAME_SEND_START (R171) -/
  | frameSendStart
  /-- LOST_CONTENTION (R168) -/
  | lostContention
  /-- ECHO_ERROR (R169) -/
  | echoError
  /-- FRAME_DROP (R169) -/
  | frameDrop
  /-- FRAME_SENT_INTACT (R170) -/
  | frameSentIntact
  /-- CUE_UNKNOWN_VERB: a CUE frame whose verb code R176 does not list (R173) -/
  | cueUnknownVerb (sender : Addr) (verb : Byte) (cue : CueNo)
  deriving DecidableEq, Repr

end Sys2Proof
end

