-- ==== Sys2Proof/Decode.lean ====
section
/-! DEFINITION. What a word, and what a frame on the line, spells. The table gives its rows no bits, so
no word spells a command. A received frame is checked as R172 gives and read by the layouts of R176. -/

namespace Sys2Proof

/-- The table of operations and events gives no row any bits: no word spells a command. -/
def decodeTableWord (_nbits _w : Nat) : Option Instr := none

/-- The bits of a field in the order they are sent, most significant first (R167). -/
def bitsMsb {n : Nat} (v : BitVec n) : List Bool := (List.range n).map v.getMsbD

/-- One bit through the CRC register for x^16 + x^12 + x^5 + 1 (R167). -/
def crcStep (reg : BitVec 16) (bit : Bool) : BitVec 16 :=
  if reg.msb != bit then (reg <<< 1) ^^^ 0x1021#16 else reg <<< 1

/-- The bits a check is worked over: identifier, length and payload as sent (R167). -/
def checkedBits (identifier : BitVec 8) (length : BitVec 4) (payload : List Byte) : List Bool :=
  bitsMsb identifier ++ bitsMsb length ++ payload.flatMap bitsMsb

/-- The check of a frame: the register starts at all ones and is not inverted at the end (R167). -/
def frameCheck (identifier : BitVec 8) (length : BitVec 4) (payload : List Byte) : BitVec 16 :=
  (checkedBits identifier length payload).foldl crcStep 0xFFFF#16

/-- The sender address of an identifier (R167). -/
def identifierSender (identifier : BitVec 8) : Addr := identifier.extractLsb' 0 5

/-- The frame kind code of an identifier (R167). -/
def identifierKind (identifier : BitVec 8) : BitVec 3 := identifier.extractLsb' 5 3

/-- The identifier of a frame kind and a sender (R167). -/
def identifierOf (kind : BitVec 3) (sender : Addr) : BitVec 8 := kind ++ sender

/-- The shortest payload of each kind (R176). -/
def minimumLength (kind : BitVec 3) : Nat :=
  match kind.toNat with
  | 0 => 1
  | 1 => 6
  | 2 => 7
  | 3 => 5
  | 4 => 8
  | 5 => 3
  | 6 => 3
  | _ => 0

/-- The low six bits of a byte, as a mark or channel number (R176). -/
def lowSix (b : Byte) : Fin 64 := ⟨b.toNat % 64, Nat.mod_lt _ (by decide)⟩

/-- The low five bits of a byte, as an address (R176). -/
def lowFive (b : Byte) : Addr := b.extractLsb' 0 5

/-- Two bytes, most significant first (R167). -/
def join16 (hi lo : Byte) : BitVec 16 := hi ++ lo

/-- Four bytes, most significant first (R167). -/
def join32 (b3 b2 b1 b0 : Byte) : BitVec 32 := b3 ++ b2 ++ b1 ++ b0

/-- A CUE frame by its verb (R173, R176). -/
def decodeCue (sender : Addr) (b : Nat → Byte) : Instr :=
  match (b 0).toNat with
  | 0 => .arm sender (b 1) (lowSix (b 2))
  | 1 => .go sender (b 1) ((b 3).getLsbD 0)
  | 2 => .hold sender (b 1)
  | 3 => .resume sender (b 1)
  | 4 => .abort sender (b 1)
  | 5 => .returnCue sender (b 1) (join16 (b 4) (b 5))
  | _ => .cueUnknownVerb sender (b 0) (b 1)

/-- A COMMAND frame by its code (R154, R176). -/
def decodeCommand (header : CommandHeader) (code : Byte) (args : List Byte) : Instr :=
  match code.toNat with
  | 1 => .markOpen header args
  | 2 => .markSet header args
  | 3 => .markClose header args
  | 4 => .markErase header args
  | 5 => .markRead header args
  | 6 => .save header args
  | 7 => .park header args
  | 8 => .wake header args
  | 9 => .clear header args
  | 10 => .peerRead header args
  | 11 => .configSet header args
  | 12 => .configDone header args
  | _ => .unknownCommand header code args

/-- The payload of each kind, long enough by R172 (R176). -/
def decodePayload (kind : BitVec 3) (sender : Addr) (payload : List Byte) : Instr :=
  let b : Nat → Byte := fun i => payload.getD i 0
  match kind.toNat with
  | 0 => .haltFrame sender (b 0)
  | 1 => decodeCue sender b
  | 2 => .demandFrame sender
      { base := lowSix (b 0), deadman := (b 0).getLsbD 7, value0 := join16 (b 1) (b 2),
        value1 := join16 (b 3) (b 4), value2 := join16 (b 5) (b 6) }
  | 3 => .paceFrame sender
      { need := join16 (b 0) (b 1), cue := b 2, armed := (b 3).getLsbD 0, running := (b 3).getLsbD 1,
        holding := (b 3).getLsbD 2, waiting := (b 3).getLsbD 3, limited := (b 3).getLsbD 4,
        destination := lowSix (b 4) }
  | 4 => .stateFrame sender
      { axisKind := (b 0).extractLsb' 0 4, hand := (b 0).getLsbD 4, saving := (b 0).getLsbD 5,
        recentre := (b 0).getLsbD 6, limited := (b 0).getLsbD 7, axisState := (b 1).extractLsb' 0 4,
        cueResult := (b 1).extractLsb' 4 4, cue := b 2, cause := (b 3).extractLsb' 0 4,
        pendingArm := (b 3).getLsbD 4, positionPresent := (b 3).getLsbD 5,
        position := join32 (b 4) (b 5) (b 6) (b 7) }
  | 5 => decodeCommand ⟨sender, lowFive (b 0), b 2⟩ (b 1) (payload.drop 3)
  | 6 => .replyFrame sender (lowFive (b 0)) (b 1) (b 2) (payload.drop 3)
  | _ => .poll sender (payload.head?.map lowFive)

/-- A frame that ended on the line, checked in the order of R172: check, length field, shortest payload.
A frame that fails reaches no block. -/
def decodeFrame (f : RawFrame) : Option Instr :=
  let kind := identifierKind f.identifier
  if f.check ≠ frameCheck f.identifier f.length f.payload then none
  else if 9 ≤ f.length.toNat then none
  else if f.payload.length < minimumLength kind then none
  else some (decodePayload kind (identifierSender f.identifier) f.payload)

end Sys2Proof
end

