-- ==== Sys2Proof/Config.lean ====
section
/-! DEFINITION. The configuration record (R179) and the fixed times of the part. The spec gives no
undefined value, so there is no free value here. -/

namespace Sys2Proof

/-- The ten axis kinds (00_scope 1.1). -/
inductive AxisKind where
  | telescope | swing | lift | pan | tilt | roll | zoom | focus | iris | track
  deriving DecidableEq, Repr

/-- The update period T: 1, 2 or 4 ms (R112, R179). -/
inductive Period where
  | one | two | four
  deriving DecidableEq, Repr

/-- The configuration record. The last three fields may be unset where the axis kind does not use them
(R180). A channel that is none is absent. -/
structure Configuration where
  axisKind : AxisKind
  limitLow : Int
  limitHigh : Int
  velMax : Nat
  accMax : Nat
  liveRate : Nat
  trimMax : Nat
  crossfade : Nat
  period : Period
  demandChannel : Option ChannelNo
  dialChannel : Option ChannelNo
  deadband : Nat
  expo : Nat
  grabLevel : Nat
  followLimit : Nat
  baseLength : Option Nat
  tipSpeed : Option Nat
  assumedLength : Option Nat
  deriving DecidableEq, Repr

/-- A staged configuration: one value or unset for each field, at the field's code of R176 (R179). -/
abbrev StagedConfiguration := Vector (Option Int) 18

end Sys2Proof
end

