-- ==== Sys2Proof/Machine/State.lean ====
section
/-! DEFINITION. The state of the node, block by block (00_scope 2.1), its value after reset, and the
reasons a step can stop. -/

namespace Sys2Proof.Machine

/-- The node has no way to stop with a fault: its axis faults are the FAULT state, an ordinary next state
(R34). -/
inductive Fault : Type
  deriving DecidableEq, Repr

/-- The only refusal is of a command without a meaning in the model. -/
inductive Refusal where
  /-- raised by `exec` for a row that has no meaning yet; safe: the model stops where the node goes on -/
  | notModelled (mnemonic : String)
  deriving DecidableEq, Repr

/-! ### Names (00_scope 4.4) -/

/-- The eleven axis states (R21). -/
inductive AxisState where
  | setup | waking | live | armed | running | holding | waiting | releasing | halted | fault | parked
  deriving DecidableEq, Repr

/-- The cue results (R21). -/
inductive CueResult where
  | noResult | armed | noMark | brokenChain | badState | missed | expired | stackFull | noReturn
  deriving DecidableEq, Repr

/-- The causes a frame can carry (R176). -/
inductive Cause where
  | stopInput | driveLost | following | link | addressClash | outOfRange | operator | abort | peerLost
  deriving DecidableEq, Repr

/-- The causes of FAULT (R131). -/
inductive FaultCause where
  | driveLost | following | outOfRange | link | addressClash
  deriving DecidableEq, Repr

/-- The causes of HOLDING (R21). -/
inductive HoldCause where
  | operator | peerLost
  deriving DecidableEq, Repr

/-- The ten results of a command (R157). -/
inductive Result where
  | ok | clamped | busy | locked | notOpen | empty | badArg | badState | causePresent | unknown
  deriving DecidableEq, Repr

inductive Ease where
  | cubic | quintic | cruise
  deriving DecidableEq, Repr

inductive Authority where
  | follow | share
  deriving DecidableEq, Repr

inductive EndAction where
  | release | latch
  deriving DecidableEq, Repr

/-- The kinds of segment (R8). -/
inductive SegmentKind where
  | mark | dwell | returnTransition
  deriving DecidableEq, Repr

/-- The wait points of a segment record (R8); `nowhere` is NONE. -/
inductive WaitPoint where
  | nowhere | stop | chainEnd
  deriving DecidableEq, Repr

/-- Where the node stands with its reset (R177). -/
inductive Phase where
  /-- the reset line is asserted -/
  | asserted
  /-- loading has gone on for this many ms -/
  | loading (elapsed : Nat)
  | running
  deriving DecidableEq, Repr

/-! ### Mark store (chapters 1 and 9) -/

/-- The eleven fields of a VALID slot (R1). -/
structure Mark where
  position : Int
  duration : Nat
  ease : Ease
  authority : Authority
  share : Nat
  dwell : Nat
  next : Option MarkNo
  loopTo : Option MarkNo
  repeats : Nat
  stop : Bool
  endAction : EndAction
  deriving DecidableEq, Repr

/-- A slot of the mark table: EMPTY without a record, VALID with one (R1). -/
structure MarkSlot where
  record : Option Mark
  unsaved : Bool
  deriving DecidableEq, Repr

/-- A slot of the nonvolatile copy, with the mark it carries while it is being written (R165). -/
structure SavedSlot where
  record : Option Mark
  inProgress : Bool
  deriving DecidableEq, Repr

/-- The open edit (R158). -/
structure OpenEdit where
  mark : MarkNo
  staged : Mark
  holder : Addr
  lease : Nat
  deriving DecidableEq, Repr

/-- A running save: the slot being written and the ms its write has run (R164). -/
structure SaveProgress where
  slot : MarkNo
  elapsed : Nat
  deriving DecidableEq, Repr

structure MarkStore where
  table : Vector MarkSlot 64
  edit : Option OpenEdit
  save : Option SaveProgress
  deriving DecidableEq, Repr

/-- The nonvolatile store (R3, R177): the configuration record when it is valid, and the saved slots. -/
structure Nonvolatile where
  config : Option Configuration
  slots : Vector SavedSlot 64
  deriving DecidableEq, Repr

/-! ### Run control and the path generator (chapters 2 and 3) -/

/-- The segment record (R8). -/
structure Segment where
  kind : SegmentKind
  origin : Int
  destination : MarkNo
  delta : Int
  duration : Nat
  ease : Ease
  tau : Nat
  dwellServed : Bool
  wait : WaitPoint
  deriving DecidableEq, Repr

/-- The loop counter; no owner is free (R12). -/
structure LoopCounter where
  owner : Option MarkNo
  count : Nat
  deriving DecidableEq, Repr

/-- The run context (R21, R55). -/
structure RunContext where
  cue : CueNo
  authority : Authority
  share : Nat
  segment : Segment
  heldAside : Option Segment
  loop : LoopCounter
  remainder : Nat
  frozen : Bool
  chainSet : List MarkNo
  deriving DecidableEq, Repr

/-- The arm record (R22). -/
structure ArmRecord where
  cue : CueNo
  first : MarkNo
  chainSet : List MarkNo
  authority : Authority
  share : Nat
  age : Nat
  deriving DecidableEq, Repr

/-- What run control holds (R21). -/
structure RunControl where
  axisState : AxisState
  run : Option RunContext
  arm : Option ArmRecord
  stack : List RunContext
  cueResult : CueResult
  haltCause : Option Cause
  holdCause : Option HoldCause
  settle : Option Nat
  deriving DecidableEq, Repr

/-! ### Pace unit (chapter 4) -/

/-- What the pace unit holds (R73). -/
structure PaceUnit where
  ownNeed : Nat
  veff : Option Nat
  dialPace : Nat
  target : Nat
  applied : Nat
  lastNeedSent : Option Nat
  interval : Option Nat
  counted : List Addr
  deriving DecidableEq, Repr

/-! ### Live demand unit (chapter 5) -/

/-- A channel record (R95). -/
structure ChannelRecord where
  channel : ChannelNo
  owner : Option Addr
  value : Option Int
  deadman : Bool
  age : Nat
  stale : Bool
  deriving DecidableEq, Repr

/-- What the live demand unit holds (R95). -/
structure LiveUnit where
  demand : Option ChannelRecord
  dial : Option ChannelRecord
  velocity : Int
  deflection : Int
  remainder : Int
  recentre : Bool
  grabTimer : Option Nat
  deriving DecidableEq, Repr

/-! ### Blend engine (chapter 6) -/

/-- The setpoint history (R111). -/
structure History where
  prev : Int
  prev2 : Int
  deriving DecidableEq, Repr

/-- What the blend engine holds (R111, and the weight step of R115). -/
structure BlendEngine where
  timer : Option Nat
  live : Option Int
  trim : Int
  weight : Nat
  weightTarget : Nat
  history : Option History
  limited : Bool
  aStep : Nat
  weightStep : Nat
  deriving DecidableEq, Repr

/-! ### Drive link (chapter 7) -/

/-- A record the node sends its drive (R132). -/
inductive DriveRecord where
  | setpoint (seq : Byte) (position feedForward : Int)
  | request (seq : Byte)
  deriving DecidableEq, Repr

/-- A feedback record (R132). -/
structure FeedbackRecord where
  seq : Byte
  ready : Bool
  position : Int
  deriving DecidableEq, Repr

/-- The open exchange: a setpoint record's setpoint, or none for a request record (R131). -/
structure Exchange where
  seq : Byte
  setpoint : Option Int
  deriving DecidableEq, Repr

/-- What the drive link holds (R131). Two fields are the model's own: `linkAwaited`, a LINK cause has been recorded
and no frame sent intact since (log 36), and `sent`, the record last sent (log 11). -/
structure DriveLink where
  seq : Byte
  exchange : Option Exchange
  answer : Option FeedbackRecord
  lastFeedback : Option Int
  missed : Nat
  following : Nat
  captured : Bool
  enable : Bool
  faultCause : Option FaultCause
  permanent : Bool
  clashAge : Option Nat
  linkIntact : Bool
  linkAwaited : Bool
  sent : Option DriveRecord
  deriving DecidableEq, Repr

/-! ### Peer table (chapter 8) -/

inductive StationKind where
  | axis | hand | unknown
  deriving DecidableEq, Repr

inductive Presence where
  | present | lost
  deriving DecidableEq, Repr

/-- The five pace flags (R145). -/
structure PaceFlags where
  armed : Bool
  running : Bool
  holding : Bool
  waiting : Bool
  limited : Bool
  deriving DecidableEq, Repr

/-- A peer entry (R145). -/
structure PeerEntry where
  address : Addr
  station : StationKind
  axisKind : Option AxisKind
  lastState : Option AxisState
  lastCue : Option CueNo
  position : Option Int
  need : Option Nat
  paceCue : Option CueNo
  flags : PaceFlags
  heardAge : Nat
  paceAge : Nat
  stateAge : Nat
  presence : Presence
  deriving DecidableEq, Repr

/-! ### Rig bus controller (chapter 10) -/

/-- A PACE frame of the node (R88). -/
structure PaceFrame where
  need : Nat
  cue : CueNo
  armed : Bool
  running : Bool
  holding : Bool
  waiting : Bool
  limited : Bool
  destination : MarkNo
  deriving DecidableEq, Repr

/-- A STATE frame of the node (R175). No axis kind is "not configured". -/
structure StateFrame where
  axisKind : Option AxisKind
  axisState : AxisState
  cueResult : CueResult
  cue : CueNo
  cause : Option Cause
  pendingArm : Bool
  saving : Bool
  recentre : Bool
  limited : Bool
  position : Option Int
  deriving DecidableEq, Repr

/-- A REPLY frame of the node (R154). -/
structure Reply where
  requester : Addr
  tag : Byte
  result : Result
  data : List Byte
  deriving DecidableEq, Repr

/-- The four kinds of frame the node sends (10.3). -/
inductive SentKind where
  | halt | pace | state | reply
  deriving DecidableEq, Repr

/-- A frame of the node, as it is filled. -/
inductive SentFrame where
  | halt (cause : FaultCause)
  | pace (frame : PaceFrame)
  | state (frame : StateFrame)
  | reply (frame : Reply)
  deriving DecidableEq, Repr

/-- The frame in hand: the last attempt, whether it is on the line now, and whether its slot no longer
holds that same frame (R169, R170). -/
structure InHand where
  kind : SentKind
  sending : Bool
  replaced : Bool
  deriving DecidableEq, Repr

/-- What the node puts on the line, a frame with the sender address it bears (R167, R169, R178); the model's
own. -/
inductive LineOutput where
  | silent
  | frame (sender : Addr) (f : SentFrame)
  | errorMark
  deriving DecidableEq, Repr

/-- What the bus controller holds (R155, R169, R170, R174). -/
structure BusController where
  haltSlot : Option FaultCause
  paceSlot : Option PaceFrame
  stateSlot : Option StateFrame
  replies : List Reply
  echoErrors : Nat
  inHand : Option InHand
  stateTimer : Option Nat
  line : LineOutput
  deriving DecidableEq, Repr

/-! ### Start-up logic (chapter 11) -/

/-- A running CONFIG_DONE write: the record it writes and the ms it has run (R180). -/
structure ConfigWrite where
  record : Configuration
  elapsed : Nat
  deriving DecidableEq, Repr

/-- The reset phase, the sampled straps and the configuration (R177, R178, R179). -/
structure Startup where
  phase : Phase
  address : Addr
  setupStrap : Bool
  config : Option Configuration
  staged : StagedConfiguration
  write : Option ConfigWrite
  deriving DecidableEq, Repr

/-- The state of the node. -/
structure State where
  startup : Startup
  nonvolatile : Nonvolatile
  stopInput : Bool
  marks : MarkStore
  control : RunControl
  pace : PaceUnit
  live : LiveUnit
  blend : BlendEngine
  drive : DriveLink
  peers : List PeerEntry
  bus : BusController
  /-- the commands that are waiting, first in first out -/
  pending : List Instr
  deriving DecidableEq, Repr

/-! ### After reset -/

/-- Every field of a staged configuration unset (R179). -/
def StagedConfiguration.unset : StagedConfiguration := Vector.replicate 18 none

/-- R177, R178, R179. DESIGN CHOICE (log 8): the straps before their first sampling read 0 and low. -/
def Startup.reset : Startup :=
  { phase := .asserted, address := 0, setupStrap := false, config := none,
    staged := StagedConfiguration.unset, write := none }

/-- DESIGN CHOICE (log 5): a part that has never been configured or saved (11.4). -/
def Nonvolatile.blank : Nonvolatile :=
  { config := none, slots := Vector.replicate 64 { record := none, inProgress := false } }

/-- R158, R164. DESIGN CHOICE (log 9): the table is empty until the load has filled it. -/
def MarkStore.reset : MarkStore :=
  { table := Vector.replicate 64 { record := none, unsaved := false }, edit := none, save := none }

/-- R21. DESIGN CHOICE (log 6): SETUP stands until R23 chooses the first state. -/
def RunControl.reset : RunControl :=
  { axisState := .setup, run := none, arm := none, stack := [], cueResult := .noResult,
    haltCause := none, holdCause := none, settle := none }

/-- R73. -/
def PaceUnit.reset : PaceUnit :=
  { ownNeed := 1024, veff := none, dialPace := 1024, target := 0, applied := 0, lastNeedSent := none,
    interval := none, counted := [] }

/-- R95. DESIGN CHOICE (log 9): the channel table is empty until the load builds it. -/
def LiveUnit.reset : LiveUnit :=
  { demand := none, dial := none, velocity := 0, deflection := 0, remainder := 0, recentre := true,
    grabTimer := none }

/-- R111. DESIGN CHOICE (log 10): a_step and weight step read 1 while no configuration is in force. -/
def BlendEngine.reset : BlendEngine :=
  { timer := none, live := none, trim := 0, weight := 0, weightTarget := 0, history := none,
    limited := false, aStep := 1, weightStep := 1 }

/-- R131. -/
def DriveLink.reset : DriveLink :=
  { seq := 0, exchange := none, answer := none, lastFeedback := none, missed := 0, following := 0,
    captured := false, enable := false, faultCause := none, permanent := false, clashAge := none,
    linkIntact := false, linkAwaited := false, sent := none }

/-- R155, R169, R171, R174. -/
def BusController.reset : BusController :=
  { haltSlot := none, paceSlot := none, stateSlot := none, replies := [], echoErrors := 0,
    inHand := none, stateTimer := none, line := .silent }

/-- The node with its reset line asserted, every block at its after-reset values (R177), a part never
configured (log 5), its stop input inactive (DESIGN CHOICE, log 7) and nothing waiting. -/
def State.reset : State :=
  { startup := Startup.reset, nonvolatile := Nonvolatile.blank, stopInput := false,
    marks := MarkStore.reset, control := RunControl.reset, pace := PaceUnit.reset, live := LiveUnit.reset,
    blend := BlendEngine.reset, drive := DriveLink.reset, peers := [], bus := BusController.reset,
    pending := [] }

end Sys2Proof.Machine
end

