-- ==== Sys2Proof/Machine/Chain.lean ====
section
/-! DEFINITION. Chains of marks (R5, R6, R7). -/

namespace Sys2Proof.Machine

/-- The marks a slot names: none for an EMPTY slot (R5). -/
def linksOf (table : Vector MarkSlot 64) (n : MarkNo) : List MarkNo :=
  match table[n].record with
  | some m => m.next.toList ++ m.loopTo.toList
  | none => []

/-- Walk from the marks still to visit, visiting each mark number once (R5). The first argument bounds
the walk. -/
def walk (table : Vector MarkSlot 64) : Nat → List MarkNo → List MarkNo → List MarkNo
  | 0, _, seen => seen
  | _ + 1, [], seen => seen
  | fuel + 1, n :: todo, seen =>
    if n ∈ seen then walk table fuel todo seen
    else walk table fuel (linksOf table n ++ todo) (n :: seen)

/-- The marks reachable from a mark (R5). At most 64 marks are visited, each naming at most two, so 192
takes are enough. -/
def reachable (table : Vector MarkSlot 64) (n : MarkNo) : List MarkNo := walk table 192 [n] []

/-- How an ARM's check comes out (R6). -/
inductive ChainCheck where
  | noMark
  | brokenChain
  | accepted (chainSet : List MarkNo) (authority : Authority) (share : Nat)
  deriving DecidableEq, Repr

/-- The check of an ARM: the first mark, then every reachable mark (R6). -/
def checkChain (table : Vector MarkSlot 64) (first : MarkNo) : ChainCheck :=
  match table[first].record with
  | none => .noMark
  | some m =>
    let set := reachable table first
    if set.any fun n => table[n].record.isNone then .brokenChain else .accepted set m.authority m.share

/-- A mark is in a chain set while the run, the armed cue or pending arm, or a stacked context holds it
(R7). -/
def inChainSet (c : RunControl) (n : MarkNo) : Bool :=
  c.run.any (fun r => r.chainSet.contains n) || c.arm.any (fun a => a.chainSet.contains n) ||
    c.stack.any (fun r => r.chainSet.contains n)

end Sys2Proof.Machine
end

