-- ==== Sys2Proof/Machine/Arith.lean ====
section
/-! DEFINITION. The arithmetic of 00_scope 4.2 and 4.3: clamping, rounding, and the largest integer that
meets a bound. -/

namespace Sys2Proof.Machine

/-- Clamp to a range (4.3). -/
def clampInt (low high x : Int) : Int := max low (min x high)

/-- Clamp to plus or minus a bound. -/
def clampAbs (bound : Nat) (x : Int) : Int := clampInt (-bound) bound x

/-- Round a quotient to nearest, halves away from zero (4.2). -/
def roundDiv (n : Int) (d : Nat) : Int := n.sign * ((2 * n.natAbs + d) / (2 * d) : Nat)

/-- The quotient rounded up (4.2). -/
def ceilDiv (n d : Nat) : Nat := (n + d - 1) / d

/-- The largest number of the given bits that `p` accepts, added to `acc`, for a `p` that holds up to
some number and not beyond it. -/
def largest (p : Nat → Bool) : Nat → Nat → Nat
  | 0, acc => acc
  | bits + 1, acc => largest p bits (if p (acc + 2 ^ bits) then acc + 2 ^ bits else acc)

/-- The largest n with n squared at most the bound (R122). -/
def squareRoot (bound : Nat) : Nat := largest (fun n => decide (n * n ≤ bound)) (bound.log2 / 2 + 1) 0

/-- Give a size the sign of a number. -/
def withSign (like : Int) (size : Nat) : Int := like.sign * size

/-- Count one up to a ceiling. -/
def countUp (ceiling n : Nat) : Nat := min ceiling (n + 1)

/-- A running timer counts one up to a ceiling; a stopped one stays. -/
def timerUp (ceiling : Nat) (t : Option Nat) : Option Nat := t.map (countUp ceiling)

/-- Apply a function to all 64 slots. -/
def mapSlots {α β : Type} (f : α → β) (v : Vector α 64) : Vector β 64 :=
  ⟨⟨v.toList.map f⟩, by simp⟩

end Sys2Proof.Machine
end

