-- ==== Sys2Proof/Machine/Path.lean ====
section
/-! DEFINITION. The path generator: segments, progress, ease curves, path position and path clock
(R8 to R11, R57 to R67). -/

namespace Sys2Proof.Machine

/-- The path time at which a segment ends, in µs (R58). -/
def segmentEnd (g : Segment) : Nat := g.duration * 1000

/-- Segment progress in 65536ths, rounded down (R59). -/
def progress (g : Segment) : Nat := g.tau * 65536 / segmentEnd g

/-- The ease value at u16/65536 as a quotient: CUBIC (R60), QUINTIC (R61), CRUISE (R62). -/
def easeValue (e : Ease) (u : Nat) : Int × Nat :=
  match e with
  | .cubic => (3 * (u : Int) ^ 2 * 65536 - 2 * (u : Int) ^ 3, 65536 ^ 3)
  | .quintic =>
    (6 * (u : Int) ^ 5 - 15 * (u : Int) ^ 4 * 65536 + 10 * (u : Int) ^ 3 * 65536 ^ 2, 65536 ^ 5)
  | .cruise =>
    if u ≤ 16384 then (8 * (u : Int) ^ 2, 3 * 65536 ^ 2)
    else if u ≤ 49152 then (8 * (u : Int) - 65536, 6 * 65536)
    else (3 * 65536 ^ 2 - 8 * (65536 - (u : Int)) ^ 2, 3 * 65536 ^ 2)

/-- The path position of a segment at a progress (R63). -/
def positionAt (g : Segment) (u : Nat) : Int :=
  let f := easeValue g.ease u
  g.origin + roundDiv (g.delta * f.1) f.2

/-- The path position of a segment at its path time (R63). -/
def pathPosition (g : Segment) : Int := positionAt g (progress g)

/-- The position at a segment's end (R58, R70). -/
def endPosition (g : Segment) : Int := g.origin + g.delta

/-- The path clock's advance: the new path time, capped at the segment's end, and the new pace remainder
(R57, R58). -/
def advanceClock (applied periodMs : Nat) (remainder : Nat) (g : Segment) : Segment × Nat :=
  let sum := applied * periodMs * 1000 + remainder
  ({ g with tau := min (segmentEnd g) (g.tau + sum / 1024) }, sum % 1024)

/-- A MARK segment to a mark (R9). -/
def markSegment (origin : Int) (n : MarkNo) (m : Mark) : Segment :=
  { kind := .mark, origin, destination := n, delta := m.position - origin, duration := m.duration,
    ease := m.ease, tau := 0, dwellServed := false, wait := .nowhere }

/-- A DWELL segment at a mark (R10). -/
def dwellSegment (n : MarkNo) (m : Mark) : Segment :=
  { kind := .dwell, origin := m.position, destination := n, delta := 0, duration := m.dwell,
    ease := m.ease, tau := 0, dwellServed := true, wait := .nowhere }

/-- The RETURN-TRANSITION from a setpoint to where a popped segment stood; the duration is clamped to
100 … 60,000 ms (R11, R49, R67). -/
def returnSegment (setpoint : Int) (duration : Nat) (popped : Segment) : Segment :=
  { kind := .returnTransition, origin := setpoint, destination := popped.destination,
    delta := pathPosition popped - setpoint, duration := max 100 (min duration 60000), ease := .cubic,
    tau := 0, dwellServed := false, wait := .nowhere }

/-- What step 3 of arrival resolution makes of the loop counter at a mark with a loop-to: the new counter,
and whether the loop-to link is taken (R15). -/
def loopStep (n : MarkNo) (repeats : Nat) (k : LoopCounter) : LoopCounter × Bool :=
  let k := if k.owner = none then { owner := some n, count := repeats } else k
  if k.owner ≠ some n then (k, false)
  else if k.count = 0 then ({ owner := none, count := 0 }, false)
  else ({ k with count := k.count - 1 }, true)

end Sys2Proof.Machine
end

