-- ==== Sys2Proof/Machine/Codes.lean ====
section
/-! DEFINITION. The code values of R176. -/

namespace Sys2Proof.Machine

/-- Axis kind codes 0 to 9. -/
def axisKindCode : AxisKind → Nat
  | .telescope => 0 | .swing => 1 | .lift => 2 | .pan => 3 | .tilt => 4 | .roll => 5 | .zoom => 6
  | .focus => 7 | .iris => 8 | .track => 9

def axisKindOfCode : Nat → Option AxisKind
  | 0 => some .telescope | 1 => some .swing | 2 => some .lift | 3 => some .pan | 4 => some .tilt
  | 5 => some .roll | 6 => some .zoom | 7 => some .focus | 8 => some .iris | 9 => some .track
  | _ => none

/-- The axis kind code of a STATE frame: 15 is not configured (R175). -/
def axisKindField : Option AxisKind → Nat
  | some k => axisKindCode k
  | none => 15

/-- Axis state codes 0 to 10. -/
def axisStateCode : AxisState → Nat
  | .setup => 0 | .waking => 1 | .live => 2 | .armed => 3 | .running => 4 | .holding => 5
  | .waiting => 6 | .releasing => 7 | .halted => 8 | .fault => 9 | .parked => 10

def axisStateOfCode : Nat → Option AxisState
  | 0 => some .setup | 1 => some .waking | 2 => some .live | 3 => some .armed | 4 => some .running
  | 5 => some .holding | 6 => some .waiting | 7 => some .releasing | 8 => some .halted
  | 9 => some .fault | 10 => some .parked | _ => none

/-- Cue result codes 0 to 8. -/
def cueResultCode : CueResult → Nat
  | .noResult => 0 | .armed => 1 | .noMark => 2 | .brokenChain => 3 | .badState => 4 | .missed => 5
  | .expired => 6 | .stackFull => 7 | .noReturn => 8

/-- Cause codes 1 to 9. -/
def causeCode : Cause → Nat
  | .stopInput => 1 | .driveLost => 2 | .following => 3 | .link => 4 | .addressClash => 5
  | .outOfRange => 6 | .operator => 7 | .abort => 8 | .peerLost => 9

/-- The cause field of a STATE frame: 0 is none. -/
def causeField : Option Cause → Nat
  | some c => causeCode c
  | none => 0

/-- The halt cause of a received HALT: a code R176 does not list, none and PEER_LOST are taken as
OPERATOR (R173). -/
def haltCauseOfCode : Nat → Cause
  | 1 => .stopInput | 2 => .driveLost | 3 => .following | 4 => .link | 5 => .addressClash
  | 6 => .outOfRange | 8 => .abort | _ => .operator

/-- A fault cause as a cause of R176. -/
def faultAsCause : FaultCause → Cause
  | .driveLost => .driveLost | .following => .following | .outOfRange => .outOfRange | .link => .link
  | .addressClash => .addressClash

/-- A hold cause as a cause of R176. -/
def holdAsCause : HoldCause → Cause
  | .operator => .operator | .peerLost => .peerLost

/-- Result codes 0 to 9. -/
def resultCode : Result → Nat
  | .ok => 0 | .clamped => 1 | .busy => 2 | .locked => 3 | .notOpen => 4 | .empty => 5 | .badArg => 6
  | .badState => 7 | .causePresent => 8 | .unknown => 9

def easeCode : Ease → Nat
  | .cubic => 0 | .quintic => 1 | .cruise => 2

def easeOfCode : Int → Option Ease
  | 0 => some .cubic | 1 => some .quintic | 2 => some .cruise | _ => none

def authorityCode : Authority → Nat
  | .follow => 0 | .share => 1

def authorityOfCode : Int → Option Authority
  | 0 => some .follow | 1 => some .share | _ => none

def endActionCode : EndAction → Nat
  | .release => 0 | .latch => 1

def endActionOfCode : Int → Option EndAction
  | 0 => some .release | 1 => some .latch | _ => none

/-- The code of an absent link and of a channel that is none. -/
def absentCode : Nat := 255

/-- A link or a channel as its code: absent is 255. -/
def linkCode : Option (Fin 64) → Nat
  | some n => n.val
  | none => absentCode

/-- A link or a channel from its code; the outer none is no code of either (R160, R179). -/
def linkOfCode (v : Int) : Option (Option (Fin 64)) :=
  if v = 255 then some none
  else if h : v.toNat < 64 ∧ 0 ≤ v then some (some ⟨v.toNat, h.1⟩) else none

/-- Frame kind codes of what the node sends. -/
def sentKindCode : SentKind → BitVec 3
  | .halt => 0 | .pace => 3 | .state => 4 | .reply => 6

/-- The period in ms. -/
def periodMs : Period → Nat
  | .one => 1 | .two => 2 | .four => 4

def periodOfMs : Int → Option Period
  | 1 => some .one | 2 => some .two | 4 => some .four | _ => none

end Sys2Proof.Machine
end

