-- ==== Sys2Proof/Machine/Timing.lean ====
section
/-! DEFINITION. The times and ceilings of the rules, in ms, and the fixed counts. -/

namespace Sys2Proof.Machine

/-- The settle timer of WAKING (R25). -/
def settleMs : Nat := 200

/-- The age at which an arm record expires (R41). -/
def armLifeMs : Nat := 30000

/-- The age past which a demand value no longer counts (R99). -/
def demandHoldMs : Nat := 100

/-- The age at which a channel record's owner is released (R98). -/
def releaseMs : Nat := 500

/-- How long a grab is held (R109). -/
def grabMs : Nat := 200

/-- The heard age at which an entry becomes LOST (R149). -/
def lostMs : Nat := 1000

/-- The window of a fresh need and of a fresh arm length (R81, R151). -/
def freshMs : Nat := 250

/-- The lease of an open edit (R158). -/
def leaseMs : Nat := 2000

/-- The time one slot's write takes (R164). -/
def slotWriteMs : Nat := 5

/-- The time the configuration write takes (R180). -/
def configWriteMs : Nat := 100

/-- The PACE interval (R90). -/
def paceIntervalMs : Nat := 50

/-- The change of need that sends a PACE frame at once (R90). -/
def needChange : Nat := 16

/-- The quiet time after which ADDRESS_CLASH counts as gone (R142). -/
def clashQuietMs : Nat := 1000

/-- The longest loading takes (R177). -/
def loadingMaxMs : Nat := 50

/-- The ceiling of every saturating age (R95, R145). -/
def ageCeiling : Nat := 65535

/-- The ceiling of the drive link's counts (R131). -/
def countCeiling : Nat := 255

/-- The missed-feedback count that loses the drive (R137). -/
def missedLimit : Nat := 8

/-- The following-error count that faults (R138). -/
def followingLimit : Nat := 10

/-- The echo-error count that drops a frame (R169). -/
def echoLimit : Nat := 8

/-- The room of the reply queue (R155). -/
def replyRoom : Nat := 4

/-- The room of the return stack (R50). -/
def stackRoom : Nat := 3

/-- Full pace and full need (4.1). -/
def fullPace : Nat := 1024

/-- Full weight (4.1). -/
def fullWeight : Nat := 4096

/-- Full deflection (4.1). -/
def fullScale : Nat := 2047

end Sys2Proof.Machine
end

