-- ==== Sys2Proof/Machine/Peers.lean ====
section
/-! DEFINITION. The peer table: entries, recording, ages, the arm length and fresh needs
(R81, R145 to R153). The table is kept in rising order of address. -/

namespace Sys2Proof.Machine

/-- A new entry's start values (R145). -/
def newEntry (a : Addr) : PeerEntry :=
  { address := a, station := .unknown, axisKind := none, lastState := none, lastCue := none,
    position := none, need := none, paceCue := none,
    flags := { armed := false, running := false, holding := false, waiting := false, limited := false },
    heardAge := 0, paceAge := ageCeiling, stateAge := ageCeiling, presence := .present }

/-- Apply a change to the entry of an address, made first if there is none (R146). -/
def upsertPeer (a : Addr) (f : PeerEntry → PeerEntry) : List PeerEntry → List PeerEntry
  | [] => [f (newEntry a)]
  | e :: rest =>
    if e.address = a then f e :: rest
    else if a.toNat < e.address.toNat then f (newEntry a) :: e :: rest
    else e :: upsertPeer a f rest

/-- The entry of an address. -/
def peerAt (peers : List PeerEntry) (a : Addr) : Option PeerEntry := peers.find? (·.address == a)

/-- What any frame writes (R147). -/
def recordAny (e : PeerEntry) : PeerEntry := { e with heardAge := 0, presence := .present }

/-- What a PACE frame writes; a need above 1024 is recorded as 1024 (R147, R173). -/
def recordPace (p : PacePayload) (e : PeerEntry) : PeerEntry :=
  { recordAny e with
    need := some (min fullPace p.need.toNat), paceCue := some p.cue,
    flags := { armed := p.armed, running := p.running, holding := p.holding, waiting := p.waiting,
               limited := p.limited },
    paceAge := 0 }

/-- What a STATE frame writes (R147, R173). -/
def recordState (p : StatePayload) (e : PeerEntry) : PeerEntry :=
  { recordAny e with
    station := if p.hand then .hand else .axis,
    axisKind := if p.hand then none else axisKindOfCode p.axisKind.toNat,
    lastState := axisStateOfCode p.axisState.toNat, lastCue := some p.cue,
    position := if p.positionPresent then some p.position.toInt else none, stateAge := 0 }

/-- One ms for the three ages (R148). -/
def agePeer (e : PeerEntry) : PeerEntry :=
  { e with heardAge := countUp ageCeiling e.heardAge, paceAge := countUp ageCeiling e.paceAge,
           stateAge := countUp ageCeiling e.stateAge }

/-- An entry becomes LOST (R149): nothing has been heard for 1000 ms, so no age is below that
(DESIGN CHOICE, log 14). -/
def loseEntry (e : PeerEntry) : PeerEntry :=
  { e with presence := .lost, heardAge := max lostMs e.heardAge, paceAge := max lostMs e.paceAge,
           stateAge := max lostMs e.stateAge }

/-- Whether an entry's length counts for the arm length (R151). -/
def lengthCounts (e : PeerEntry) : Bool :=
  e.axisKind == some .telescope && e.presence == .present && decide (e.stateAge ≤ freshMs)

/-- The largest fresh telescope length (R151). -/
def armLength (peers : List PeerEntry) : Option Int :=
  ((peers.filter lengthCounts).filterMap (·.position)).max?

/-- Whether any of the four state flags is set (R81). -/
def anyStateFlag (f : PaceFlags) : Bool := f.armed || f.running || f.holding || f.waiting

/-- The fresh peer need of an entry for an own cue (R81). -/
def freshNeed (ownCue : Option CueNo) (e : PeerEntry) : Option Nat :=
  if ownCue.isSome && e.paceCue == ownCue && decide (e.paceAge ≤ freshMs) && anyStateFlag e.flags
  then e.need else none

/-- Every fresh peer need, with its address (R81). -/
def freshNeeds (ownCue : Option CueNo) (peers : List PeerEntry) : List (Addr × Nat) :=
  peers.filterMap fun e => (freshNeed ownCue e).map fun n => (e.address, n)

end Sys2Proof.Machine
end

