-- ==== Sys2Proof/Machine/Figures.lean ====
section
/-! DEFINITION. Figures worked out from the configuration and the state: effective velocity, own need,
steps and caps, and the shaping of demand. -/

namespace Sys2Proof.Machine

/-! ### Steps (R115, R121) -/

/-- The acceleration step (R121). -/
def aStepOf (c : Configuration) : Nat := max 1 (c.accMax * periodMs c.period ^ 2 / 1000000)

/-- The weight step (R115). -/
def weightStepOf (c : Configuration) : Nat := ceilDiv (fullWeight * periodMs c.period) c.crossfade

/-- The velocity cap for an effective velocity (R121). -/
def velocityCap (c : Configuration) (veff : Nat) : Nat := max 1 (veff * periodMs c.period / 1000)

/-! ### Effective velocity and own need (R76 to R79) -/

/-- Whether the arm-tip limit applies (R79). -/
def limitedByTip (k : AxisKind) : Bool := k == .swing || k == .lift

/-- The arm length used, clamped to 500 … 100,000 mm (R79). -/
def usedLength (c : Configuration) (peers : List PeerEntry) : Nat :=
  (clampInt 500 100000 ((armLength peers).getD (c.assumedLength.getD 0))).toNat

/-- The effective velocity limit (R79). -/
def veffOf (c : Configuration) (peers : List PeerEntry) : Nat :=
  if limitedByTip c.axisKind then min c.velMax (c.tipSpeed.getD 0 * 1000000 / usedLength c peers)
  else c.velMax

/-- Peak slope of an ease, as a quotient (3.4). -/
def peakSlope : Ease → Nat × Nat
  | .cubic => (3, 2)
  | .quintic => (15, 8)
  | .cruise => (4, 3)

/-- Peak second derivative of an ease, as a quotient (3.4). -/
def peakCurve : Ease → Nat × Nat
  | .cubic => (6, 1)
  | .quintic => (5774, 1000)
  | .cruise => (16, 3)

/-- The velocity term of the need (R76). -/
def velocityTerm (veff : Nat) (distance duration : Nat) (e : Ease) : Nat :=
  1024 * veff * duration * (peakSlope e).2 / ((peakSlope e).1 * distance * 1000)

/-- The acceleration term of the need: the largest n with n²·apk ≤ 1024²·ACC_MAX, searched up to 2047
since no need above 1024 is used (R77). -/
def accelerationTerm (accMax : Nat) (distance duration : Nat) (e : Ease) : Nat :=
  largest (fun n => decide (n * n * ((peakCurve e).1 * distance * 1000000) ≤
    1024 * 1024 * accMax * duration ^ 2 * (peakCurve e).2)) 11 0

/-- The need of a segment (R78). -/
def segmentNeed (c : Configuration) (veff : Nat) (delta : Int) (duration : Nat) (e : Ease) : Nat :=
  if delta = 0 then fullPace
  else min fullPace
    (min (velocityTerm veff delta.natAbs duration e) (accelerationTerm c.accMax delta.natAbs duration e))

/-! ### Dial (R83) -/

/-- The dial pace of a held dial value. -/
def dialPaceOf (v : Int) : Nat := (max 0 v).toNat * 1024 / 2047

/-! ### Shaping (R101 to R104) -/

/-- The deadband (R102). -/
def shapeDeadband (deadband : Nat) (v : Int) : Int :=
  if v.natAbs ≤ deadband then 0 else withSign v ((v.natAbs - deadband) * 2047 / (2047 - deadband))

/-- The expo, rounded toward zero once (R103). -/
def shapeExpo (expo : Nat) (d : Int) : Int :=
  Int.tdiv (d * (256 - expo) * 2047 ^ 2 + expo * d ^ 3) (256 * 2047 ^ 2)

/-- The live velocity of a shaped output (R104). -/
def velocityOf (liveRate : Nat) (out : Int) : Int := roundDiv (out * liveRate) 2047

/-! ### Caps on a step (R122, R127) -/

/-- The distance from a setpoint to the limit a step heads for (R122). -/
def approachDistance (c : Configuration) (prev step : Int) : Nat :=
  if 0 < step then (c.limitHigh - prev).toNat else (prev - c.limitLow).toNat

/-- The fastest step from which the axis can still brake at the limit (R122). -/
def approachCap (c : Configuration) (aStep : Nat) (prev step : Int) : Nat :=
  squareRoot (2 * aStep * approachDistance c prev step)

/-- Whether a position lies within the limits. -/
def withinLimits (c : Configuration) (x : Int) : Bool :=
  decide (c.limitLow ≤ x) && decide (x ≤ c.limitHigh)

end Sys2Proof.Machine
end

