-- ==== Sys2Proof/Machine/Flags.lean ====
section
/-! DEFINITION. What the node shows of itself and tests of itself: state classes, own cue, own need, the
fields and flags of its PACE and STATE frames, and the grab condition. -/

namespace Sys2Proof.Machine

/-! ### Classes of axis state -/

/-- The states a HALT or the stop input halts (R32). -/
def working : AxisState → Bool
  | .live | .armed | .running | .holding | .waiting | .releasing => true
  | _ => false

/-- The states with a run context (R21). -/
def hasRun : AxisState → Bool
  | .running | .holding | .waiting | .releasing => true
  | _ => false

/-- The states in which the return stack may hold a context (R50). -/
def keepsStack : AxisState → Bool
  | .running | .holding | .waiting => true
  | _ => false

/-- The states that send PACE frames (R90). -/
def sendsPace : AxisState → Bool
  | .armed | .running | .holding | .waiting | .releasing => true
  | _ => false

/-- The changes that make the live-rate remainder 0 (R106). -/
def clearsRemainder : AxisState → Bool
  | .live | .halted | .fault | .parked => true
  | _ => false

/-! ### Figures read from the state -/

/-- The step of the last update; with no history it counts as 0 (R111, R127). -/
def lastStep (b : BlendEngine) : Int :=
  match b.history with
  | some h => h.prev - h.prev2
  | none => 0

/-- The present setpoint, s_prev. Where there is none no rule reads it (log 25). -/
def presentSetpoint (b : BlendEngine) : Int :=
  match b.history with
  | some h => h.prev
  | none => 0

/-- The own cue (R82). -/
def ownCue (c : RunControl) : Option CueNo :=
  match c.axisState with
  | .armed => c.arm.map (·.cue)
  | .running | .holding | .waiting | .releasing => c.run.map (·.cue)
  | _ => none

/-- The own need for an effective velocity, from the segment R75 names (R75, R78). -/
def ownNeedOf (c : Configuration) (veff : Nat) (s : State) : Nat :=
  match s.control.axisState with
  | .armed =>
    match s.control.arm with
    | some a =>
      match s.marks.table[a.first].record with
      | some m => segmentNeed c veff (m.position - presentSetpoint s.blend) m.duration m.ease
      | none => s.pace.ownNeed
    | none => s.pace.ownNeed
  | .running | .holding =>
    match s.control.run with
    | some r => segmentNeed c veff r.segment.delta r.segment.duration r.segment.ease
    | none => s.pace.ownNeed
  | .waiting | .releasing => fullPace
  | _ => s.pace.ownNeed

/-- The own need at this moment, with the arm length now current (R89). -/
def needNow (s : State) : Nat :=
  match s.startup.config with
  | some c => ownNeedOf c (veffOf c s.peers) s
  | none => s.pace.ownNeed

/-! ### PACE frames (R88) -/

/-- The destination mark of a PACE frame (R88). -/
def paceDestination (c : RunControl) : MarkNo :=
  match c.axisState, c.arm, c.run with
  | .armed, some a, _ => a.first
  | .armed, none, _ => 0
  | _, _, some r => r.segment.destination
  | _, _, none => 0

/-- The PACE frame the node fills, with a need (R88). -/
def paceFrameOf (need : Nat) (s : State) : PaceFrame :=
  { need, cue := (ownCue s.control).getD 0,
    armed := s.control.axisState == .armed, running := s.control.axisState == .running,
    holding := s.control.axisState == .holding, waiting := s.control.axisState == .waiting,
    limited := s.blend.limited, destination := paceDestination s.control }

/-! ### STATE frames (R54, R175) -/

/-- The cue number run control shows (R54). -/
def shownCue (c : RunControl) : CueNo :=
  match c.axisState with
  | .running | .holding | .waiting | .releasing => (c.run.map (·.cue)).getD 0
  | .armed | .live => (c.arm.map (·.cue)).getD 0
  | _ => 0

/-- The pending arm flag: an arm record in any state but ARMED (R22, R54). -/
def pendingArm (c : RunControl) : Bool := c.arm.isSome && c.axisState != .armed

/-- The cause run control and the drive link show (R54). -/
def shownCause (s : State) : Option Cause :=
  match s.control.axisState with
  | .halted => s.control.haltCause
  | .holding => s.control.holdCause.map holdAsCause
  | .fault => s.drive.faultCause.map faultAsCause
  | _ => none

/-- The axis position a STATE frame reports: s_prev, else the last feedback (R175). -/
def shownAxisPosition (s : State) : Option Int :=
  match s.blend.history with
  | some h => some h.prev
  | none => s.drive.lastFeedback

/-- The position field: on a TELESCOPE node the arm length in mm. DESIGN CHOICE (log 35): the quotient is rounded,
not the sum (R175). -/
def shownPosition (s : State) : Option Int :=
  match s.startup.config with
  | some c =>
    if c.axisKind = .telescope then
      (shownAxisPosition s).map fun x => (c.baseLength.getD 0 : Int) + Int.tdiv x 1000
    else shownAxisPosition s
  | none => shownAxisPosition s

/-- The STATE frame the node fills (R175). -/
def stateFrameOf (s : State) : StateFrame :=
  { axisKind := s.startup.config.map (·.axisKind), axisState := s.control.axisState,
    cueResult := s.control.cueResult, cue := shownCue s.control, cause := shownCause s,
    pendingArm := pendingArm s.control, saving := s.marks.save.isSome, recentre := s.live.recentre,
    limited := s.blend.limited, position := shownPosition s }

/-- The STATE interval of an axis state, in ms (R174). -/
def stateIntervalMs : AxisState → Nat
  | .running | .holding | .waiting | .releasing | .halted | .fault => 20
  | .setup | .waking | .live | .armed => 100
  | .parked => 1000

/-! ### Grab (R108) -/

/-- The grab condition (R108). -/
def grabCondition (s : State) : Bool :=
  (s.control.axisState == .running || s.control.axisState == .holding) &&
    s.control.run.any (fun r => r.authority == .follow) &&
    s.startup.config.any (fun c => decide (0 < c.grabLevel) &&
      decide (c.grabLevel ≤ s.live.deflection.natAbs)) &&
    !s.live.recentre

end Sys2Proof.Machine
end

