-- ==== Sys2Proof/Machine/Operands.lean ====
section
/-! DEFINITION. The operands of commands: argument bytes (R157, R176), mark fields (R1, R160) and
configuration fields (R179, R180). -/

namespace Sys2Proof.Machine

/-! ### Bytes -/

/-- A signed 32-bit value as four bytes, most significant first (R167, R176). -/
def valueBytes (v : Int) : List Byte :=
  let b := BitVec.ofInt 32 v
  [b.extractLsb' 24 8, b.extractLsb' 16 8, b.extractLsb' 8 8, b.extractLsb' 0 8]

/-- A field of 16 bits as two bytes, most significant first. -/
def halfBytes (n : Nat) : List Byte :=
  let b := BitVec.ofNat 16 n
  [b.extractLsb' 8 8, b.extractLsb' 0 8]

/-- A byte holding a code. -/
def codeByte (n : Nat) : Byte := BitVec.ofNat 8 n

/-- The signed 32-bit value of four argument bytes (R176). -/
def valueOf (b3 b2 b1 b0 : Byte) : Int := (b3 ++ b2 ++ b1 ++ b0 : BitVec 32).toInt

/-- A mark number argument; none is above 63. -/
def markOf (b : Byte) : Option MarkNo := if h : b.toNat < 64 then some ⟨b.toNat, h⟩ else none

/-! ### Mark fields -/

/-- The eleven settable fields (R176). -/
inductive MarkField where
  | position | duration | ease | authority | share | dwell | next | loopTo | repeats | stop | endAction
  deriving DecidableEq, Repr

def markFieldOf (b : Byte) : Option MarkField :=
  match b.toNat with
  | 0 => some .position | 1 => some .duration | 2 => some .ease | 3 => some .authority
  | 4 => some .share | 5 => some .dwell | 6 => some .next | 7 => some .loopTo | 8 => some .repeats
  | 9 => some .stop | 10 => some .endAction | _ => none

/-- A field of a mark, as the value a reply carries (R163, R176). -/
def markFieldValue (m : Mark) : MarkField → Int
  | .position => m.position
  | .duration => m.duration
  | .ease => easeCode m.ease
  | .authority => authorityCode m.authority
  | .share => m.share
  | .dwell => m.dwell
  | .next => linkCode m.next
  | .loopTo => linkCode m.loopTo
  | .repeats => m.repeats
  | .stop => if m.stop then 1 else 0
  | .endAction => endActionCode m.endAction

/-- Store a value in a field of a staged copy; none is BAD_ARG (R160, cases 4 to 7). A position, duration,
share, dwell or repeat outside its range of R1 is clamped into it. -/
def setMarkField (limitLow limitHigh : Int) (m : Mark) (f : MarkField) (v : Int) : Option Mark :=
  match f with
  | .position => some { m with position := clampInt limitLow limitHigh v }
  | .duration => some { m with duration := (clampInt 100 600000 v).toNat }
  | .ease => (easeOfCode v).map fun e => { m with ease := e }
  | .authority => (authorityOfCode v).map fun a => { m with authority := a }
  | .share => some { m with share := (clampInt 0 4096 v).toNat }
  | .dwell => some { m with dwell := (clampInt 0 60000 v).toNat }
  | .next => (linkOfCode v).map fun n => { m with next := n }
  | .loopTo => (linkOfCode v).map fun n => { m with loopTo := n }
  | .repeats => some { m with repeats := (clampInt 1 255 v).toNat }
  | .stop => if v = 0 then some { m with stop := false }
    else if v = 1 then some { m with stop := true } else none
  | .endAction => (endActionOfCode v).map fun e => { m with endAction := e }

/-- The start values of a staged copy of an EMPTY slot, at a setpoint (R1). -/
def startMark (setpoint : Int) : Mark :=
  { position := setpoint, duration := 3000, ease := .cubic, authority := .follow, share := 4096,
    dwell := 0, next := none, loopTo := none, repeats := 1, stop := false, endAction := .release }

/-! ### Configuration fields -/

/-- A configuration field code: 0 to 17 (R176). -/
abbrev ConfigField := Fin 18

def configFieldOf (b : Byte) : Option ConfigField :=
  if h : b.toNat < 18 then some ⟨b.toNat, h⟩ else none

/-- The value stored for a field, clamped where the field has a clamp range; none is BAD_ARG (R179). -/
def configStored (f : ConfigField) (v : Int) : Option Int :=
  match f.val with
  | 0 => if 0 ≤ v ∧ v ≤ 9 then some v else none
  | 1 | 2 => some v
  | 3 => some (clampInt 1 50000000 v)
  | 4 => some (clampInt 1 500000000 v)
  | 5 => some (clampInt 1 50000000 v)
  | 6 => some (clampInt 0 2147483647 v)
  | 7 => some (clampInt 50 5000 v)
  | 8 => if v = 1 ∨ v = 2 ∨ v = 4 then some v else none
  | 9 | 10 => if (0 ≤ v ∧ v ≤ 63) ∨ v = 255 then some v else none
  | 11 => some (clampInt 0 255 v)
  | 12 => some (clampInt 0 256 v)
  | 13 => if v ≤ 0 then some 0 else some (clampInt 256 2047 v)
  | 14 => some (clampInt 1 2147483647 v)
  | 15 => some (clampInt 500 50000 v)
  | 16 => some (clampInt 100 20000 v)
  | _ => some (clampInt 500 100000 v)

/-- Whether CONFIG_DONE looks at a field: BASE_LENGTH only on a TELESCOPE, TIP_SPEED and ASSUMED_LENGTH
only on a SWING or LIFT (R180). -/
def configFieldUsed (kind : Option Int) (f : ConfigField) : Bool :=
  match f.val with
  | 15 => kind == some 0
  | 16 | 17 => kind == some 1 || kind == some 2
  | _ => true

/-- The check between fields (R180): LIMIT_HIGH above LIMIT_LOW, LIVE_RATE at most VEL_MAX, TRIM_MAX at
most LIMIT_HIGH − LIMIT_LOW. DEDUCED (log 20): the check of the two limits is LIMIT_HIGH's. -/
def configRelationHolds (st : StagedConfiguration) (f : ConfigField) (v : Int) : Bool :=
  match f.val with
  | 2 => match st[1] with
    | some low => decide (low < v)
    | none => true
  | 5 => match st[3] with
    | some vel => decide (v ≤ vel)
    | none => true
  | 6 => match st[1], st[2] with
    | some low, some high => decide (v ≤ high - low)
    | _, _ => true
  | _ => true

/-- Whether a field fails the check of CONFIG_DONE (R180). -/
def configFieldFails (st : StagedConfiguration) (f : ConfigField) : Bool :=
  configFieldUsed st[0] f &&
    match st[f] with
    | none => true
    | some v => !configRelationHolds st f v

/-- The eighteen field codes in order. -/
def configFields : List ConfigField :=
  [0, 1, 2, 3, 4, 5, 6, 7, 8, 9, 10, 11, 12, 13, 14, 15, 16, 17]

/-- The first field that fails, in order of field code (R180). -/
def firstFailure (st : StagedConfiguration) : Option ConfigField := configFields.find? (configFieldFails st)

/-- The record a staged configuration makes; none while a field every kind needs is unset. -/
def configurationOf (st : StagedConfiguration) : Option Configuration := do
  let kindCode ← st[0]
  let kind ← axisKindOfCode kindCode.toNat
  let limitLow ← st[1]
  let limitHigh ← st[2]
  let velMax ← st[3]
  let accMax ← st[4]
  let liveRate ← st[5]
  let trimMax ← st[6]
  let crossfade ← st[7]
  let periodValue ← st[8]
  let period ← periodOfMs periodValue
  let demandCode ← st[9]
  let demandChannel ← linkOfCode demandCode
  let dialCode ← st[10]
  let dialChannel ← linkOfCode dialCode
  let deadband ← st[11]
  let expo ← st[12]
  let grabLevel ← st[13]
  let followLimit ← st[14]
  return { axisKind := kind, limitLow, limitHigh, velMax := velMax.toNat, accMax := accMax.toNat,
           liveRate := liveRate.toNat, trimMax := trimMax.toNat, crossfade := crossfade.toNat, period,
           demandChannel, dialChannel, deadband := deadband.toNat, expo := expo.toNat,
           grabLevel := grabLevel.toNat, followLimit := followLimit.toNat,
           baseLength := st[15].map Int.toNat, tipSpeed := st[16].map Int.toNat,
           assumedLength := st[17].map Int.toNat }

/-- A configuration as a staged one: what SETUP starts from (R179). -/
def stagedOf (c : Configuration) : StagedConfiguration :=
  #v[some (axisKindCode c.axisKind), some c.limitLow, some c.limitHigh, some c.velMax, some c.accMax,
    some c.liveRate, some c.trimMax, some c.crossfade, some (periodMs c.period),
    some (linkCode c.demandChannel), some (linkCode c.dialChannel), some c.deadband, some c.expo,
    some c.grabLevel, some c.followLimit, c.baseLength.map Int.ofNat, c.tipSpeed.map Int.ofNat,
    c.assumedLength.map Int.ofNat]

end Sys2Proof.Machine
end

