-- ==== Sys2Proof/Machine/Ops.lean ====
section
/-! DEFINITION. The operations the commands share: queueing frames, hearing a station, changing the axis
state, faults, and taking a COMMAND. -/

namespace Sys2Proof.Machine

/-! ### The outbox and the reply queue (R155, R170) -/

/-- The frame in hand after its slot was refilled or emptied (R170). -/
def noteReplaced (k : SentKind) (h : Option InHand) : Option InHand :=
  h.map fun x => if x.kind = k then { x with replaced := true } else x

/-- Hand a HALT to its slot. A node with the permanent marker discards it (R170, R171). -/
def queueHalt (cause : FaultCause) (s : State) : State :=
  if s.drive.permanent then s
  else { s with bus.haltSlot := some cause, bus.inHand := noteReplaced .halt s.bus.inHand }

/-- Fill a STATE frame and hand it to its slot; the interval restarts (R174). -/
def queueState (s : State) : State :=
  if s.drive.permanent then s
  else { s with bus.stateSlot := some (stateFrameOf s),
                bus.inHand := noteReplaced .state s.bus.inHand, bus.stateTimer := some 0 }

/-- Hand a PACE frame with a need to its slot; the need becomes the own need and the last need sent, and
the interval restarts (R88). -/
def sendPace (need : Nat) (s : State) : State :=
  if s.drive.permanent then s
  else { s with bus.paceSlot := some (paceFrameOf need s),
                bus.inHand := noteReplaced .pace s.bus.inHand,
                pace.ownNeed := need, pace.lastNeedSent := some need, pace.interval := some 0 }

/-- Queue a PACE frame with the need worked out at this moment (R89). -/
def queuePace (s : State) : State := sendPace (needNow s) s

/-- A REPLY joins the reply queue (R154). -/
def sendReply (h : CommandHeader) (r : Result) (data : List Byte) (s : State) : State :=
  { s with bus.replies := s.bus.replies ++
      [{ requester := h.sender, tag := h.tag, result := r, data }] }

/-! ### The live demand unit's flags (R106, R107, R108) -/

/-- Start, keep or break the grab timer as the grab condition now stands (R108). -/
def refreshGrab (s : State) : State :=
  { s with live.grabTimer := if grabCondition s then some (s.live.grabTimer.getD 0) else none }

/-- Set the re-centre interlock (R104, R106, R107). -/
def setRecentre (s : State) : State :=
  refreshGrab { s with live.recentre := true, live.velocity := 0, live.remainder := 0 }

/-! ### Changing the axis state -/

/-- Run control's records as a state keeps them: what the new state does not hold is dropped
(R7, R21, R22, R50). -/
def keepRecords (new : AxisState) (c : RunControl) : RunControl :=
  { c with
    axisState := new,
    run := if hasRun new then c.run else none,
    arm := if working new then c.arm else none,
    stack := if keepsStack new then c.stack else [],
    haltCause := if new = .halted then c.haltCause else none,
    holdCause := if new = .holding then c.holdCause else none,
    settle := if new = .waking then c.settle else none }

/-- The pace unit without a run or an armed cue (R74). -/
def dropPace (p : PaceUnit) : PaceUnit :=
  { p with target := 0, applied := 0, lastNeedSent := none, interval := none, counted := [] }

/-- The blend engine without a run: weight, target and trim are 0 (R32, R34, R115, R117). -/
def dropMix (b : BlendEngine) : BlendEngine := { b with weight := 0, weightTarget := 0, trim := 0 }

/-- Put the node into an axis state, with what every block keeps or drops there. -/
def putState (new : AxisState) (s : State) : State :=
  { s with
    control := keepRecords new s.control,
    pace := if sendsPace new then s.pace else dropPace s.pace,
    live.remainder := if clearsRemainder new then 0 else s.live.remainder,
    blend := if hasRun new then s.blend else dropMix s.blend,
    drive.faultCause := if new = .fault then s.drive.faultCause else none }

/-- Tell the rig of a change of axis state: a STATE frame at once (R174), and a PACE frame for a change
among the states that send them (R89). -/
def announce (old : AxisState) (s : State) : State :=
  let new := s.control.axisState
  if new = old then s
  else if sendsPace old && sendsPace new then queuePace (queueState s)
  else queueState s

/-- Change the axis state and announce it. -/
def changeState (new : AxisState) (s : State) : State :=
  announce s.control.axisState (refreshGrab (putState new s))

/-- Enter HALTED with a halt cause (R32). -/
def haltNode (cause : Cause) (s : State) : State :=
  changeState .halted { s with control.haltCause := some cause }

/-- On entry into a working state the stop input is read; inactive halts the node (R32, R139). -/
def readStop (old : AxisState) (s : State) : State :=
  if working s.control.axisState && s.control.axisState != old && !s.stopInput
  then haltNode .stopInput s else s

/-- Enter a state, reading the stop input where it is a working one. -/
def enterState (new : AxisState) (s : State) : State := readStop s.control.axisState (changeState new s)

/-- Enter LIVE with the re-centre interlock set and the live position at the present setpoint, or at a
given position (R17, R25, R33, R35). -/
def enterLiveAt (x : Int) (s : State) : State :=
  enterState .live (setRecentre { s with blend.live := some x })

/-- Enter WAKING: settle timer, captured flag and counts from the start, enable off, nothing captured yet
(R25, R129, R135, R136). -/
def enterWaking (s : State) : State :=
  enterState .waking
    { s with control.settle := some 0, drive.captured := false, drive.missed := 0,
             drive.following := 0, drive.enable := false, blend.live := none, blend.history := none,
             blend.limited := false }

/-! ### Faults (R34, R140, R141) -/

/-- The causes with which the enable output goes off (R135, R140). -/
def enableOffCause (c : FaultCause) : Bool := c == .driveLost || c == .outOfRange

/-- Enter FAULT: the cause is recorded, the enable output goes off for a lost or misplaced drive, run,
arm and stack are dropped, and one HALT is queued; LINK clears its intact flag (R34, R131, R140). -/
def enterFault (cause : FaultCause) (s : State) : State :=
  queueHalt cause <| changeState .fault
    { s with drive.faultCause := some cause,
             drive.enable := s.drive.enable && !enableOffCause cause,
             drive.linkIntact := if cause = .link then false else s.drive.linkIntact,
             drive.linkAwaited := s.drive.linkAwaited || cause == .link }

/-- A cause reported in FAULT: a lost drive takes the place of FOLLOWING, LINK and a passing
ADDRESS_CLASH; LINK restarts its condition; everything else is kept (R141; log 36). -/
def reportInFault (cause : FaultCause) (s : State) : State :=
  match cause with
  | .driveLost =>
    match s.drive.faultCause with
    | some .driveLost | some .outOfRange | none => s
    | some .addressClash =>
      if s.drive.permanent then s
      else { s with drive.faultCause := some .driveLost, drive.enable := false }
    | some .following | some .link =>
      { s with drive.faultCause := some .driveLost, drive.enable := false }
  | .link =>
    { s with drive.linkIntact := false,
             drive.linkAwaited := s.drive.linkAwaited || s.drive.faultCause == some .link }
  | .following | .outOfRange | .addressClash => s

/-- Report a fault cause: no effect in SETUP and PARKED, R141 in FAULT, entry into FAULT elsewhere
(R34, R140). -/
def reportFault (cause : FaultCause) (s : State) : State :=
  match s.control.axisState with
  | .setup | .parked => s
  | .fault => reportInFault cause s
  | _ => enterFault cause s

/-- Whether the drive checks report anything: not in SETUP, PARKED, or WAKING before capture
(R136, R137, R138). -/
def driveChecked (s : State) : Bool :=
  match s.control.axisState with
  | .setup | .parked => false
  | .waking => s.drive.captured
  | _ => true

/-- A clash: recorded and reported, but not in SETUP or PARKED (R140, R142, R152). -/
def reportClash (s : State) : State :=
  match s.control.axisState with
  | .setup | .parked => s
  | _ => reportFault .addressClash { s with drive.clashAge := some 0 }

/-! ### Receiving (R146, R172) -/

/-- A frame's record in the peer table; address 0 has no entry (R146). -/
def hear (sender : Addr) (record : PeerEntry → PeerEntry) (s : State) : State :=
  if sender = 0 then s else { s with peers := upsertPeer sender record s.peers }

/-- A frame that came intact. While the node is in reset or loading it is discarded (R172); one that bears
the node's own address is a clash and nothing else (R152); any other is recorded, and handled after that: R150 gives
the order for a PACE frame, the model takes it for every kind (DEDUCED, log 38). -/
def receive (sender : Addr) (record : PeerEntry → PeerEntry) (handle : State → State) (s : State) :
    State :=
  if s.startup.phase ≠ .running then s
  else if sender = s.startup.address ∧ sender ≠ 0 then reportClash s
  else handle (hear sender record s)

/-- An event of the node's own: nothing happens while it is in reset or loading. -/
def whenRunning (f : State → State) (s : State) : State :=
  if s.startup.phase = .running then f s else s

/-! ### Taking a COMMAND (R154 to R157) -/

/-- The rows of R156. -/
inductive CommandClass where
  | edit      -- MARK_OPEN, MARK_SET, MARK_CLOSE, MARK_ERASE, SAVE
  | read      -- MARK_READ, PEER_READ
  | park
  | wake
  | clear
  | config    -- CONFIG_SET, CONFIG_DONE
  | unknown
  deriving DecidableEq, Repr

/-- What R156 answers at once; none is "taken". PARKED is dealt with before. -/
def gate (k : CommandClass) (st : AxisState) : Option Result :=
  match k with
  | .edit => match st with
    | .setup | .waking => some .badState
    | _ => none
  | .read => if st = .waking then some .badState else none
  | .park => if st = .live then none else some .badState
  | .wake => if st = .parked then none else some .badState
  | .clear => if st = .fault then none else some .badState
  | .config => match st with
    | .setup => none
    | .waking => some .badState
    | _ => some .locked
  | .unknown => some .unknown

/-- Whether the node acts on a COMMAND: from a station with an address, to this node or to all, and not
in a FAULT with the permanent marker; PARKED acts on WAKE alone (R37, R154, R156). -/
def actsOn (h : CommandHeader) (k : CommandClass) (s : State) : Bool :=
  h.sender != 0 && (h.target == 0 || h.target == s.startup.address) && !s.drive.permanent &&
    (s.control.axisState != .parked || k == .wake)

/-- An answer: a result, reply data, and the state with what the command did. -/
structure Answer where
  result : Result
  data : List Byte
  state : State

/-- A refusal changes nothing. -/
def refuse (r : Result) (s : State) : Answer := { result := r, data := [], state := s }

/-- Take a command: discarded where the reply queue is full, answered from the table of R156, or done by
its owner; the REPLY joins the queue (R154, R155, R156). -/
def answer (h : CommandHeader) (k : CommandClass) (act : State → Answer) (s : State) : State :=
  if !actsOn h k s then s
  else if replyRoom ≤ s.bus.replies.length then s
  else match gate k s.control.axisState with
    | some r => sendReply h r [] s
    | none => sendReply h (act s).result (act s).data (act s).state

/-- A COMMAND frame as the node receives it (R154, R172). -/
def command (h : CommandHeader) (k : CommandClass) (act : State → Answer) (s : State) : State :=
  receive h.sender recordAny (answer h k act) s

end Sys2Proof.Machine
end

