-- ==== Sys2Proof/Machine/Bus.lean ====
section
/-! DEFINITION. The rig bus controller's own events and the frames that go no further than the peer table
or the bus controller (R168 to R174), and PEER_READ (R153). -/

namespace Sys2Proof.Machine

/-! ### Sending (R168 to R171) -/

/-- The frame to send: HALT, PACE, STATE, then the oldest REPLY (R171). -/
def nextFrame (b : BusController) : Option (SentKind × SentFrame) :=
  match b.haltSlot, b.paceSlot, b.stateSlot, b.replies with
  | some c, _, _, _ => some (.halt, .halt c)
  | none, some p, _, _ => some (.pace, .pace p)
  | none, none, some f, _ => some (.state, .state f)
  | none, none, none, r :: _ => some (.reply, .reply r)
  | none, none, none, [] => none

/-- Whether the node has a frame of its own on the line. -/
def sending (b : BusController) : Bool := b.inHand.any (·.sending)

/-- An attempt for a frame of this kind is for the frame of the last attempt (R169, R170). -/
def sameAttempt (k : SentKind) (b : BusController) : Bool :=
  b.inHand.any fun h => h.kind == k && !h.replaced

/-- The line is idle: start the next frame, under the sampled address (R168, R169, R171, R178). -/
def startFrame (s : State) : State :=
  if s.drive.permanent || sending s.bus then s
  else match nextFrame s.bus with
    | none => s
    | some (k, f) =>
      { s with bus.line := .frame s.startup.address f,
               bus.inHand := some { kind := k, sending := true, replaced := false },
               bus.echoErrors := if sameAttempt k s.bus then s.bus.echoErrors else 0 }

/-- The frame in hand leaves its slot or the reply queue, where that still holds it (R170). -/
def removeFrame (h : InHand) (b : BusController) : BusController :=
  if h.replaced then b
  else match h.kind with
    | .halt => { b with haltSlot := none }
    | .pace => { b with paceSlot := none }
    | .state => { b with stateSlot := none }
    | .reply => { b with replies := b.replies.tail }

/-- Contention is lost: the send stops and the frame stays queued (R168). -/
def loseContention (s : State) : State :=
  match s.bus.inHand with
  | some h =>
    if h.sending then
      { s with bus.line := .silent, bus.inHand := some { h with sending := false } }
    else s
  | none => s

/-- Drop the frame in hand and report LINK (R169). -/
def dropFrame (h : InHand) (s : State) : State :=
  reportFault .link
    { s with bus := { removeFrame h s.bus with inHand := none, echoErrors := 0 } }

/-- A bit came back different: error mark, one more echo error, and the frame is dropped at the eighth
(R169). -/
def takeEchoError (s : State) : State :=
  match s.bus.inHand with
  | some h =>
    if h.sending then
      let n := s.bus.echoErrors + 1
      let s := { s with bus.line := .errorMark, bus.inHand := some { h with sending := false },
                        bus.echoErrors := n }
      if echoLimit ≤ n then dropFrame h s else s
    else s
  | none => s

/-- The echo-error count reaches 8: the frame in hand is dropped (R169; log 14). -/
def dropEvent (s : State) : State :=
  match s.bus.inHand with
  | some h => dropFrame h { s with bus.line := if h.sending then .errorMark else s.bus.line }
  | none => s

/-- The frame on the line ended intact; the first since a LINK cause was recorded sets the LINK intact flag
(R131, R142, R169, R170; log 36). -/
def frameSent (s : State) : State :=
  match s.bus.inHand with
  | some h =>
    if h.sending then
      { s with bus := { removeFrame h s.bus with inHand := none, echoErrors := 0, line := .silent },
               drive.linkIntact := s.drive.linkIntact || s.drive.linkAwaited,
               drive.linkAwaited := false }
    else s
  | none => s

/-! ### Receiving (R32, R147, R173, R174) -/

/-- A HALT: it halts a working node with the frame's cause (R32, R173). -/
def takeHalt (code : Byte) (s : State) : State :=
  if working s.control.axisState then haltNode (haltCauseOfCode code.toNat) s else s

/-- A POLL to all or to this node queues a STATE frame (R174). -/
def takePoll (target : Option Addr) (s : State) : State :=
  match target with
  | none => queueState s
  | some t => if t = 0 ∨ t = s.startup.address then queueState s else s

/-- The STATE interval has run (R174). -/
def stateInterval (s : State) : State := if s.bus.stateTimer.isSome then queueState s else s

/-! ### PEER_READ (R153) -/

/-- The peer state field: LOST, the last state, or not heard (R153, R176; log 23). -/
def peerStateCode (e : PeerEntry) : Nat :=
  if e.presence = .lost then 14
  else match e.lastState with
    | some st => axisStateCode st
    | none => 15

/-- The pace age in 10 ms steps, at most 255 (R153). -/
def ageField (e : PeerEntry) : Nat := min 255 (e.paceAge / 10)

/-- The data of an OK reply (R153, R176). -/
def peerData (e : PeerEntry) : List Byte :=
  [codeByte (peerStateCode e)] ++ halfBytes (e.need.getD 65535) ++
    [codeByte (ageField e), e.paceCue.getD 0]

/-- PEER_READ (R153). -/
def takePeerRead (args : List Byte) (s : State) : Answer :=
  match args with
  | [] => refuse .badArg s
  | b :: _ =>
    if b = 0 ∨ 31 < b.toNat ∨ b.toNat = s.startup.address.toNat then refuse .badArg s
    else match peerAt s.peers (b.setWidth 5) with
      | none => refuse .empty s
      | some e => { result := .ok, data := peerData e, state := s }

/-- FRAME_SEND_START. -/
def execFrameSendStart (s : State) : Host.Outcome State Fault Refusal := .next (whenRunning startFrame s)

/-- LOST_CONTENTION. -/
def execLostContention (s : State) : Host.Outcome State Fault Refusal :=
  .next (whenRunning loseContention s)

/-- ECHO_ERROR. -/
def execEchoError (s : State) : Host.Outcome State Fault Refusal := .next (whenRunning takeEchoError s)

/-- FRAME_DROP. -/
def execFrameDrop (s : State) : Host.Outcome State Fault Refusal := .next (whenRunning dropEvent s)

/-- FRAME_SENT_INTACT. -/
def execFrameSentIntact (s : State) : Host.Outcome State Fault Refusal := .next (whenRunning frameSent s)

/-- HALT_FRAME. -/
def execHaltFrame (sender : Addr) (cause : Byte) (s : State) : Host.Outcome State Fault Refusal :=
  .next (receive sender recordAny (takeHalt cause) s)

/-- STATE_FRAME: the peer table's record is all (R173). -/
def execStateFrame (sender : Addr) (p : StatePayload) (s : State) :
    Host.Outcome State Fault Refusal :=
  .next (receive sender (recordState p) id s)

/-- REPLY_FRAME: only the peer table's record of the sender (R173). -/
def execReplyFrame (sender : Addr) (_requester : Addr) (_tag _result : Byte) (_data : List Byte)
    (s : State) : Host.Outcome State Fault Refusal :=
  .next (receive sender recordAny id s)

/-- POLL. -/
def execPoll (sender : Addr) (target : Option Addr) (s : State) : Host.Outcome State Fault Refusal :=
  .next (receive sender recordAny (takePoll target) s)

/-- STATE_INTERVAL. -/
def execStateInterval (s : State) : Host.Outcome State Fault Refusal := .next (whenRunning stateInterval s)

/-- PEER_READ. -/
def execPeerRead (h : CommandHeader) (args : List Byte) (s : State) :
    Host.Outcome State Fault Refusal :=
  .next (command h .read (takePeerRead args) s)

/-- UNKNOWN_COMMAND: answered UNKNOWN (R156). -/
def execUnknownCommand (h : CommandHeader) (_code : Byte) (_args : List Byte) (s : State) :
    Host.Outcome State Fault Refusal :=
  .next (command h .unknown (refuse .unknown) s)

end Sys2Proof.Machine
end

