-- ==== Sys2Proof/Machine/Runs.lean ====
section
/-! DEFINITION. Run control's work on a run: starting, resolving arrivals, continuing, returning
(R13 to R20, R43 to R51). -/

namespace Sys2Proof.Machine

/-! ### The run's records -/

/-- Change the segment in progress. -/
def onSegment (f : Segment → Segment) (s : State) : State :=
  { s with control.run := s.control.run.map fun r => { r with segment := f r.segment } }

/-- The record of a mark. A mark of a held chain set is VALID (R7); for any other the model reads the
start values (log 25). -/
def markAt (s : State) (n : MarkNo) : Mark := (s.marks.table[n].record).getD (startMark 0)

/-- The weight target of an authority and share (R114). -/
def targetOf (a : Authority) (share : Nat) : Nat :=
  match a with
  | .follow => fullWeight
  | .share => share

/-- The counted set when the own cue may have changed by a GO or a RETURN: emptied where it did
(R92; log 16). -/
def countedFor (old new : Option CueNo) (counted : List Addr) : List Addr :=
  if old = new then counted else []

/-! ### Arrival resolution (R13 to R19) -/

/-- A segment built within a run: it is in progress at once, and its PACE frame is queued (R65, R89). From
a stop mark the node becomes RUNNING again (R14). -/
def beginSegment (g : Segment) (s : State) : State :=
  let s := onSegment (fun _ => g) s
  if s.control.axisState = .waiting then enterState .running s else queuePace s

/-- Stand at a mark, waiting (R14, R17, R30). -/
def waitAt (w : WaitPoint) (s : State) : State :=
  enterState .waiting (onSegment (fun g => { g with wait := w }) s)

/-- Freeze the path (R19, R71). -/
def freezePath (s : State) : State :=
  { s with control.run := s.control.run.map fun r => { r with frozen := true } }

/-- A chain end with RELEASE: RELEASING with the path frozen and the weight target 0. In a FOLLOW run the
live increment changes from the trim to the live position, so the remainder becomes 0
(R17, R71, R106, R114; log 17). -/
def releaseEnd (s : State) : State :=
  let follow := s.control.run.any (fun r => r.authority == .follow)
  enterState .releasing
    (freezePath { s with blend.weightTarget := 0,
                         live.remainder := if follow then 0 else s.live.remainder })

/-- A chain end with LATCH: LIVE at once, the live position at the setpoint of the last update and the
interlock set (R17). -/
def latchEnd (s : State) : State := enterLiveAt (presentSetpoint s.blend) s

/-- Step 5, the end of the chain (R17, R19). -/
def stepEnd (m : Mark) (s : State) : State :=
  if s.control.axisState = .releasing then freezePath s
  else if s.control.stack ≠ [] then waitAt .chainEnd s
  else match m.endAction with
    | .release => releaseEnd s
    | .latch => latchEnd s

/-- Step 4, the next link (R16). -/
def stepNext (m : Mark) (s : State) : State :=
  match m.next with
  | some n => beginSegment (markSegment m.position n (markAt s n)) s
  | none => stepEnd m s

/-- Step 3, the loop (R15). -/
def stepLoop (n : MarkNo) (m : Mark) (s : State) : State :=
  match m.loopTo, s.control.run with
  | some target, some r =>
    let (k, taken) := loopStep n m.repeats r.loop
    let s := { s with control.run := some { r with loop := k } }
    if taken then beginSegment (markSegment m.position target (markAt s target)) s else stepNext m s
  | _, _ => stepNext m s

/-- Step 2, the stop mark; passed over in RELEASING (R14, R19). -/
def stepStop (n : MarkNo) (m : Mark) (s : State) : State :=
  if m.stop && s.control.axisState != .releasing then waitAt .stop s else stepLoop n m s

/-- Step 1, the dwell (R13). -/
def stepDwell (n : MarkNo) (m : Mark) (served : Bool) (s : State) : State :=
  if served then stepStop n m s
  else
    let s := onSegment (fun g => { g with dwellServed := true }) s
    if 0 < m.dwell then beginSegment (dwellSegment n m) s else stepStop n m s

/-- The end of a RETURN-TRANSITION: the held-aside segment becomes current as it was saved (R20). -/
def handBack (s : State) : State :=
  match s.control.run with
  | none => s
  | some r =>
    match r.heldAside with
    | none => s
    | some g =>
      let s := queuePace { s with control.run := some { r with segment := g, heldAside := none } }
      if g.tau ≠ segmentEnd g then s
      else match g.wait with
        | .nowhere => s
        | .stop =>
          if s.control.axisState = .releasing then
            stepLoop g.destination (markAt s g.destination)
              (onSegment (fun x => { x with wait := .nowhere }) s)
          else waitAt .stop s
        | .chainEnd => stepEnd (markAt s g.destination) s

/-- Take the arrival at the end of the segment in progress (R58). -/
def takeArrival (s : State) : State :=
  match s.control.run with
  | none => s
  | some r =>
    let n := r.segment.destination
    match r.segment.kind with
    | .returnTransition => handBack s
    | _ => stepDwell n (markAt s n) r.segment.dwellServed s

/-! ### Starting and returning -/

/-- The context a GO builds from an arm record (R43). -/
def freshRun (a : ArmRecord) (setpoint : Int) (m : Mark) : RunContext :=
  { cue := a.cue, authority := a.authority, share := a.share, segment := markSegment setpoint a.first m,
    heldAside := none, loop := { owner := none, count := 0 }, remainder := 0, frozen := false,
    chainSet := a.chainSet }

/-- Start a run from an arm record, with the return stack it leaves (R43, R86, R92, R106, R114, R116). -/
def startRun (a : ArmRecord) (stack : List RunContext) (s : State) : State :=
  let old := s.control.axisState
  let x := presentSetpoint s.blend
  let s' := changeState .running
    { s with
      control.run := some (freshRun a x (markAt s a.first)), control.arm := none,
      control.stack := stack, control.cueResult := .noResult,
      pace.applied := 0, pace.counted := countedFor (ownCue s.control) (some a.cue) s.pace.counted,
      live.remainder := 0,
      blend.trim := 0, blend.live := some x, blend.weightTarget := targetOf a.authority a.share }
  readStop old (queuePace s')

/-- The context a GO with nest puts on the stack: in a RETURN-TRANSITION the held-aside segment is the one
that is saved (R45, R68). -/
def pushedRun (r : RunContext) : RunContext :=
  match r.heldAside with
  | some g => { r with segment := g, heldAside := none }
  | none => r

/-- The context RETURN makes of a popped one: its segment held aside while a RETURN-TRANSITION leads to
where it stood (R49, R67). -/
def returningRun (setpoint : Int) (duration : Nat) (r : RunContext) : RunContext :=
  { r with segment := returnSegment setpoint duration r.segment, heldAside := some r.segment }

/-- Go back to the context on top of the stack (R49, R92, R106, R116). -/
def popRun (duration : Nat) (top : RunContext) (rest : List RunContext) (s : State) : State :=
  let old := s.control.axisState
  let x := presentSetpoint s.blend
  let s' := changeState .running
    { s with
      control.run := some (returningRun x duration top), control.stack := rest,
      control.cueResult := .noResult,
      pace.counted := countedFor (ownCue s.control) (some top.cue) s.pace.counted,
      live.remainder := 0,
      blend.trim := 0, blend.live := some x, blend.weightTarget := targetOf top.authority top.share }
  readStop old (queuePace s')

/-- A GO at a stop mark goes on with step 3 (R14, R46). -/
def continueRun (s : State) : State :=
  match s.control.run with
  | none => s
  | some r =>
    let n := r.segment.destination
    stepLoop n (markAt s n)
      (onSegment (fun g => { g with wait := .nowhere }) { s with control.cueResult := .noResult })

/-- A grab: the stack is cleared, the weight target becomes 0 and the path keeps advancing
(R51, R106, R114). -/
def takeGrab (s : State) : State :=
  match s.control.axisState with
  | .running | .holding =>
    enterState .releasing
      { s with control.stack := [], blend.weightTarget := 0, live.remainder := 0 }
  | _ => s

/-- A counted peer was lost (R52). -/
def takeCountedLoss (s : State) : State :=
  match s.control.axisState with
  | .running => enterState .holding { s with control.holdCause := some .peerLost }
  | _ => s

end Sys2Proof.Machine
end

