-- ==== Sys2Proof/Machine/Cues.lean ====
section
/-! DEFINITION. The CUE verbs (R38 to R49). -/

namespace Sys2Proof.Machine

/-- Whether CUE frames are taken at all (R38). -/
def takesCues (st : AxisState) : Bool :=
  match st with
  | .setup | .waking | .parked => false
  | _ => true

/-- Only the cue result changes. -/
def cueAnswer (r : CueResult) (s : State) : State := { s with control.cueResult := r }

/-- A cue number that is 0 or the given one (R38). -/
def cueMatches (cue : CueNo) (own : Option CueNo) : Bool := own.isSome && (cue == 0 || own == some cue)

/-- ARM (R6, R39, R40). -/
def takeArm (cue : CueNo) (first : MarkNo) (s : State) : State :=
  if cue = 0 then s
  else match s.control.axisState with
    | .setup | .waking | .parked => s
    | .halted | .fault => cueAnswer .badState s
    | st =>
      match checkChain s.marks.table first with
      | .noMark => cueAnswer .noMark s
      | .brokenChain => cueAnswer .brokenChain s
      | .accepted set authority share =>
        let s' := cueAnswer .armed
          { s with control.arm := some { cue, first, chainSet := set, authority, share, age := 0 } }
        match st with
        | .live | .armed => readStop st (queuePace (changeState .armed s'))
        | _ => s'

/-- Whether the arm record is for a cue number. -/
def armedFor (cue : CueNo) (c : RunControl) : Bool := c.arm.any (fun a => a.cue == cue)

/-- Start the run of the arm record, on a stack. -/
def goRun (stack : List RunContext) (s : State) : State :=
  match s.control.arm with
  | some a => startRun a stack s
  | none => s

/-- GO in RUNNING, HOLDING or WAITING for the pending arm: replace, or nest where there is room
(R44, R45). -/
def goPending (nest : Bool) (s : State) : State :=
  if nest then
    if stackRoom ≤ s.control.stack.length then cueAnswer .stackFull s
    else goRun ((s.control.run.map pushedRun).toList ++ s.control.stack) s
  else goRun s.control.stack s

/-- Whether the run waits at a stop mark for its own cue (R46). -/
def waitsForGo (cue : CueNo) (c : RunControl) : Bool :=
  c.axisState == .waiting && c.run.any (fun r => r.segment.wait == .stop && r.cue == cue)

/-- GO (R42 to R46). -/
def takeGo (cue : CueNo) (nest : Bool) (s : State) : State :=
  if cue = 0 then s
  else match s.control.axisState with
    | .setup | .waking | .parked => s
    | .halted | .fault => cueAnswer .badState s
    | .live => if armedFor cue s.control then goRun [] s else cueAnswer .missed s
    | .armed =>
      if armedFor cue s.control then goRun [] s
      else enterState .live { s with control.arm := none, control.cueResult := .missed }
    | .releasing => if armedFor cue s.control then goRun [] s else cueAnswer .missed s
    | .running | .holding | .waiting =>
      if armedFor cue s.control then goPending nest s
      else if waitsForGo cue s.control then continueRun s
      else cueAnswer .missed s

/-- HOLD (R47). -/
def takeHold (cue : CueNo) (s : State) : State :=
  match s.control.axisState with
  | .setup | .waking | .parked => s
  | .live | .armed | .halted | .fault => cueAnswer .badState s
  | .holding | .waiting | .releasing => s
  | .running =>
    if cueMatches cue (ownCue s.control) then
      enterState .holding { s with control.holdCause := some .operator }
    else s

/-- RESUME (R47). -/
def takeResume (cue : CueNo) (s : State) : State :=
  match s.control.axisState with
  | .holding => if cueMatches cue (ownCue s.control) then enterState .running s else s
  | _ => s

/-- ABORT (R48). -/
def takeAbort (cue : CueNo) (s : State) : State :=
  let armMatches := cueMatches cue (s.control.arm.map (·.cue))
  let dropArm := { s with control.arm := none }
  match s.control.axisState with
  | .running | .holding | .waiting | .releasing =>
    if cueMatches cue (s.control.run.map (·.cue)) then haltNode .abort s
    else if armMatches then dropArm else s
  | .armed => if armMatches then enterState .live dropArm else s
  | .live => if armMatches then dropArm else s
  | _ => s

/-- RETURN (R49). -/
def takeReturn (cue : CueNo) (duration : Nat) (s : State) : State :=
  match s.control.axisState with
  | .setup | .waking | .parked => s
  | .live | .armed | .halted | .fault => cueAnswer .badState s
  | .releasing => if cueMatches cue (ownCue s.control) then cueAnswer .badState s else s
  | .running | .holding | .waiting =>
    if cueMatches cue (ownCue s.control) then
      match s.control.stack with
      | [] => cueAnswer .noReturn s
      | top :: rest => popRun duration top rest s
    else s

/-- A CUE frame is received like any frame and then its verb is taken (R38, R173). -/
def cueFrame (sender : Addr) (verb : State → State) (s : State) : State :=
  receive sender recordAny verb s

/-- ARM. -/
def execArm (sender : Addr) (cue : CueNo) (first : MarkNo) (s : State) :
    Host.Outcome State Fault Refusal :=
  .next (cueFrame sender (takeArm cue first) s)

/-- GO. -/
def execGo (sender : Addr) (cue : CueNo) (nest : Bool) (s : State) :
    Host.Outcome State Fault Refusal :=
  .next (cueFrame sender (takeGo cue nest) s)

/-- HOLD. -/
def execHold (sender : Addr) (cue : CueNo) (s : State) : Host.Outcome State Fault Refusal :=
  .next (cueFrame sender (takeHold cue) s)

/-- RESUME. -/
def execResume (sender : Addr) (cue : CueNo) (s : State) : Host.Outcome State Fault Refusal :=
  .next (cueFrame sender (takeResume cue) s)

/-- ABORT. -/
def execAbort (sender : Addr) (cue : CueNo) (s : State) : Host.Outcome State Fault Refusal :=
  .next (cueFrame sender (takeAbort cue) s)

/-- RETURN. -/
def execReturnCue (sender : Addr) (cue : CueNo) (duration : BitVec 16) (s : State) :
    Host.Outcome State Fault Refusal :=
  .next (cueFrame sender (takeReturn cue duration.toNat) s)

/-- CUE_UNKNOWN_VERB: only the peer table's record of the sender (R173). -/
def execCueUnknownVerb (sender : Addr) (_verb : Byte) (_cue : CueNo) (s : State) :
    Host.Outcome State Fault Refusal :=
  .next (cueFrame sender id s)

end Sys2Proof.Machine
end

