-- ==== Sys2Proof/Machine/Drive.lean ====
section
/-! DEFINITION. The drive link: the exchange, capture, the drive checks, the stop input, the settle timer
and CLEAR (R25, R35, R132 to R143). -/

namespace Sys2Proof.Machine

/-! ### The exchange (R132 to R134) -/

/-- The following-error count after an exchange closed with a ready answer (R138). -/
def followingAfter (c : Configuration) (e : Exchange) (position : Int) (count : Nat) : Nat :=
  match e.setpoint with
  | some x => if c.followLimit < (x - position).natAbs then countUp countCeiling count else 0
  | none => 0

/-- The two counts after the open exchange is closed (R134, R138). -/
def closedCounts (c : Configuration) (d : DriveLink) : Nat × Nat :=
  match d.exchange with
  | none => (d.missed, d.following)
  | some e =>
    match d.answer with
    | some a =>
      if a.ready then (0, followingAfter c e a.position d.following)
      else (countUp countCeiling d.missed, d.following)
    | none => (countUp countCeiling d.missed, d.following)

/-- Report a drive check's cause where the checks apply (R136, R137, R138). -/
def reportDrive (cause : FaultCause) (s : State) : State :=
  if driveChecked s then reportFault cause s else s

/-- Close the open exchange and make the checks that its new counts trip (R134, R137, R138). -/
def closeExchange (c : Configuration) (s : State) : State :=
  let (missed, following) := closedCounts c s.drive
  let lost := missed == missedLimit && s.drive.missed != missedLimit
  let lagging := following == followingLimit && s.drive.following != followingLimit
  let s := { s with drive.missed := missed, drive.following := following, drive.exchange := none }
  let s := if lost then reportDrive .driveLost s else s
  if lagging then reportDrive .following s else s

/-- Send one record and open a new exchange with it: a setpoint record with the enable output on and a pair
to send, else a request record (R132). -/
def sendRecord (pair : Option (Int × Int)) (s : State) : State :=
  let n := s.drive.seq
  let d := { s.drive with seq := n + 1, answer := none }
  match s.drive.enable, pair with
  | true, some (x, ff) =>
    { s with drive := { d with exchange := some { seq := n, setpoint := some x },
                               sent := some (.setpoint n x ff) } }
  | _, _ =>
    { s with drive := { d with exchange := some { seq := n, setpoint := none },
                               sent := some (.request n) } }

/-- The drive link's part of an update (R132, R134). -/
def exchangeStage (c : Configuration) (pair : Option (Int × Int)) (s : State) : State :=
  sendRecord pair (closeExchange c s)

/-! ### Feedback and capture (R129, R133, R136) -/

/-- Capture the first ready feedback of WAKING (R25, R129, R136). -/
def capture (c : Configuration) (x : Int) (s : State) : State :=
  let s := { s with drive.captured := true }
  if withinLimits c x then
    { s with drive.enable := true, blend.history := some { prev := x, prev2 := x },
             blend.live := some x, blend.trim := 0, blend.weight := 0 }
  else reportFault .outOfRange s

/-- A feedback record arrives (R133). -/
def takeFeedback (f : FeedbackRecord) (s : State) : State :=
  match s.drive.exchange, s.drive.answer with
  | some e, none =>
    if e.seq = f.seq then
      let s := { s with drive.answer := some f,
                        drive.lastFeedback := if f.ready then some f.position
                          else s.drive.lastFeedback }
      match s.startup.config with
      | some c =>
        if f.ready && s.control.axisState == .waking && !s.drive.captured then capture c f.position s
        else s
      | none => s
    else s
  | _, _ => s

/-! ### The drive checks as events (R137, R138; log 14) -/

/-- The missed-feedback count reaches 8. -/
def driveLostEvent (s : State) : State :=
  reportDrive .driveLost { s with drive.missed := max missedLimit s.drive.missed }

/-- The following-error count reaches 10. -/
def followingEvent (s : State) : State :=
  reportDrive .following { s with drive.following := max followingLimit s.drive.following }

/-! ### The stop input and the settle timer (R25, R33, R139) -/

/-- The stop input takes a level (R32, R33, R139). The axis is at rest when the last step is 0 (log 19). -/
def stopChange (active : Bool) (s : State) : State :=
  let changed := active != s.stopInput
  let s := { s with stopInput := active }
  if !changed then s
  else if !active then if working s.control.axisState then haltNode .stopInput s else s
  else if s.control.axisState = .halted ∧ lastStep s.blend = 0 then
    enterLiveAt (presentSetpoint s.blend) s
  else s

/-- The level is the pin's, in reset too; its changes are taken while the node runs. -/
def stopInputChange (active : Bool) (s : State) : State :=
  if s.startup.phase = .running then stopChange active s else { s with stopInput := active }

/-- The settle timer of WAKING expires (R25, R136). -/
def settleExpiry (s : State) : State :=
  if s.control.axisState = .waking ∧ s.control.settle.isSome then
    if !s.drive.captured then reportFault .driveLost s
    else if s.stopInput then enterState .live (setRecentre s)
    else haltNode .stopInput s
  else s

/-! ### CLEAR (R35, R129, R142, R143) -/

/-- Whether the recorded cause counts as gone (R142). -/
def causeGone (c : Configuration) (d : DriveLink) : Bool :=
  match d.faultCause with
  | some .driveLost => d.missed == 0
  | some .outOfRange => d.lastFeedback.any (withinLimits c)
  | some .following => d.following == 0
  | some .link => d.linkIntact
  | some .addressClash => !d.permanent && d.clashAge.any (fun t => decide (clashQuietMs ≤ t))
  | none => false

/-- The four conditions of a CLEAR (R143). -/
def clearAccepted (c : Configuration) (s : State) : Bool :=
  causeGone c s.drive && (s.drive.missed == 0 && s.drive.following == 0) &&
    s.drive.lastFeedback.any (withinLimits c) && lastStep s.blend == 0

/-- An accepted CLEAR: with the enable off the history restarts at the last feedback and the enable goes
on; the live position takes the feedback, and the stop input chooses LIVE or HALTED (R35, R129, R143; log 32). -/
def clearFault (x : Int) (s : State) : State :=
  let s := if s.drive.enable then s
    else { s with blend.history := some { prev := x, prev2 := x }, drive.enable := true }
  if s.stopInput then enterLiveAt x s else haltNode .stopInput { s with blend.live := some x }

/-- CLEAR in FAULT (R143, R166). -/
def takeClear (s : State) : Answer :=
  match s.startup.config, s.drive.lastFeedback with
  | some c, some x =>
    if clearAccepted c s then { result := .ok, data := [], state := clearFault x s }
    else refuse .causePresent s
  | _, _ => refuse .causePresent s

/-- FEEDBACK_RECORD. -/
def execFeedbackRecord (seq : Byte) (ready : Bool) (position : BitVec 32) (s : State) :
    Host.Outcome State Fault Refusal :=
  .next (whenRunning (takeFeedback { seq, ready, position := position.toInt }) s)

/-- DRIVE_LOST. -/
def execDriveLost (s : State) : Host.Outcome State Fault Refusal := .next (whenRunning driveLostEvent s)

/-- FOLLOWING. -/
def execFollowing (s : State) : Host.Outcome State Fault Refusal := .next (whenRunning followingEvent s)

/-- STOP_INPUT_CHANGE. -/
def execStopInputChange (active : Bool) (s : State) : Host.Outcome State Fault Refusal :=
  .next (stopInputChange active s)

/-- SETTLE_TIMER_EXPIRY. -/
def execSettleTimerExpiry (s : State) : Host.Outcome State Fault Refusal :=
  .next (whenRunning settleExpiry s)

/-- CLEAR. -/
def execClear (h : CommandHeader) (_args : List Byte) (s : State) : Host.Outcome State Fault Refusal :=
  .next (command h .clear takeClear s)

end Sys2Proof.Machine
end

