-- ==== Sys2Proof/Machine/Live.lean ====
section
/-! DEFINITION. The live demand unit: channels, ownership, shaping, the live increment, the interlock and
the grab (R95 to R109). -/

namespace Sys2Proof.Machine

/-- A channel record in its reset values (R95). -/
def freshRecord (ch : ChannelNo) : ChannelRecord :=
  { channel := ch, owner := none, value := none, deadman := false, age := 0, stale := true }

/-- The live demand unit with its table built from a configuration, or from none (R95, R96). -/
def rebuiltLive (c : Option Configuration) : LiveUnit :=
  { LiveUnit.reset with
    demand := c.bind fun c => c.demandChannel.map freshRecord,
    dial := c.bind fun c => c.dialChannel.map freshRecord }

/-- The value a DEMAND frame carries for a channel: base, base + 1 or base + 2, none above 63 (R97). -/
def demandValueFor (p : DemandPayload) (ch : ChannelNo) : Option Int :=
  if ch.val = p.base.val then some p.value0.toInt
  else if ch.val = p.base.val + 1 then some p.value1.toInt
  else if ch.val = p.base.val + 2 then some p.value2.toInt
  else none

/-- The value of a frame that a record takes: from anyone while it is unowned, else from its owner
(R97, R98). -/
def takenValue (sender : Addr) (p : DemandPayload) (r : ChannelRecord) : Option Int :=
  if r.owner = none ∨ r.owner = some sender then demandValueFor p r.channel else none

/-- A record after a value is taken: clamped to full scale and stored (R97, R101). -/
def storeValue (sender : Addr) (deadman : Bool) (v : Int) (r : ChannelRecord) : ChannelRecord :=
  { r with owner := some sender, value := some (clampAbs fullScale v), deadman, age := 0,
           stale := false }

/-- The deflection of a stored value: 0 with the deadman clear, then the deadband (R101, R102). -/
def deflectionOf (c : Configuration) (deadman : Bool) (v : Int) : Int :=
  shapeDeadband c.deadband (if deadman then clampAbs fullScale v else 0)

/-- Take a value for the demand record: shaped at once; a centred value with the deadman set clears the
interlock (R101 to R104, R107). -/
def takeDemand (c : Configuration) (sender : Addr) (deadman : Bool) (v : Int) (r : ChannelRecord)
    (s : State) : State :=
  let d := deflectionOf c deadman v
  let out := shapeExpo c.expo d
  refreshGrab
    { s with
      live.demand := some (storeValue sender deadman v r),
      live.deflection := d,
      live.velocity := if s.live.recentre then 0 else velocityOf c.liveRate out,
      live.recentre := s.live.recentre && !(deadman && out == 0) }

/-- The demand record's part of a DEMAND frame. -/
def demandPart (sender : Addr) (p : DemandPayload) (s : State) : State :=
  match s.startup.config, s.live.demand with
  | some c, some r =>
    match takenValue sender p r with
    | some v => takeDemand c sender p.deadman v r s
    | none => s
  | _, _ => s

/-- The dial record's part of a DEMAND frame (R97, R100). -/
def dialPart (sender : Addr) (p : DemandPayload) (s : State) : State :=
  match s.live.dial with
  | some r =>
    match takenValue sender p r with
    | some v => { s with live.dial := some (storeValue sender p.deadman v r) }
    | none => s
  | none => s

/-- A DEMAND frame; one from address 0 reaches no record (R97). -/
def takeDemandFrame (sender : Addr) (p : DemandPayload) (s : State) : State :=
  if sender = 0 then s else dialPart sender p (demandPart sender p s)

/-- The demand value goes stale: nothing is asked for any more (R99, R104). The age is at the hold or past it
(DESIGN CHOICE, log 14). -/
def staleDemand (s : State) : State :=
  match s.live.demand with
  | some r =>
    refreshGrab
      { s with live.demand := some { r with stale := true, age := max demandHoldMs r.age },
               live.velocity := 0, live.deflection := 0 }
  | none => s

/-- The dial value goes stale; it stays in use (R95, R100; log 24). -/
def staleDial (s : State) : State :=
  { s with live.dial := s.live.dial.map fun r => { r with stale := true } }

/-- A record's owner is released; nothing else of it changes but that its age has reached 500 ms
(R98; log 14). -/
def releaseRecord (r : ChannelRecord) : ChannelRecord :=
  if r.owner.isSome then { r with owner := none, age := max releaseMs r.age } else r

/-- The owner of a channel falls silent (R98). -/
def releaseChannel (ch : Channel) (s : State) : State :=
  match ch with
  | .demand => { s with live.demand := s.live.demand.map releaseRecord }
  | .dial => { s with live.dial := s.live.dial.map releaseRecord }

/-- The grab timer reaches 200 ms: it stops and the grab is reported (R51, R109). -/
def grabExpiry (s : State) : State :=
  if s.live.grabTimer.isSome then takeGrab { s with live.grabTimer := none } else s

/-- One ms for a record's age, once a frame has been taken (R99; log 24). -/
def ageRecord (r : ChannelRecord) : ChannelRecord :=
  if r.value.isSome then { r with age := countUp ageCeiling r.age } else r

/-- The live increment of an update and the new remainder, both toward zero (R105). -/
def liveIncrement (periodMs : Nat) (l : LiveUnit) : Int × Int :=
  let sum := l.velocity * periodMs + l.remainder
  (Int.tdiv sum 1000, Int.tmod sum 1000)

/-- DEMAND_FRAME. -/
def execDemandFrame (sender : Addr) (p : DemandPayload) (s : State) :
    Host.Outcome State Fault Refusal :=
  .next (receive sender recordAny (takeDemandFrame sender p) s)

/-- DEMAND_STALE. -/
def execDemandStale (s : State) : Host.Outcome State Fault Refusal := .next (whenRunning staleDemand s)

/-- CHANNEL_RELEASE. -/
def execChannelRelease (ch : Channel) (s : State) : Host.Outcome State Fault Refusal :=
  .next (whenRunning (releaseChannel ch) s)

/-- GRAB. -/
def execGrab (s : State) : Host.Outcome State Fault Refusal := .next (whenRunning grabExpiry s)

end Sys2Proof.Machine
end

