-- ==== Sys2Proof/Machine/Marks.lean ====
section
/-! DEFINITION. The mark store's commands and events (R157 to R164), and the loading of marks
(R2, R3, R165). -/

namespace Sys2Proof.Machine

/-! ### Slots -/

/-- Clamp a VALID slot's position to the limits; a change sets the unsaved marker (R2). -/
def clampSlot (c : Configuration) (slot : MarkSlot) : MarkSlot :=
  match slot.record with
  | some m =>
    let x := clampInt c.limitLow c.limitHigh m.position
    if x = m.position then slot else { record := some { m with position := x }, unsaved := true }
  | none => slot

/-- What a saved slot loads as; one cut short while it was written loads EMPTY and unsaved (R3, R165). -/
def loadSlot (v : SavedSlot) : MarkSlot :=
  if v.inProgress then { record := none, unsaved := true } else { record := v.record, unsaved := false }

/-- The mark table after a load (R3). -/
def loadedTable (nv : Nonvolatile) : Vector MarkSlot 64 :=
  let table := mapSlots loadSlot nv.slots
  match nv.config with
  | some c => mapSlots (clampSlot c) table
  | none => table

/-- The status byte of a slot: bit 0 VALID, bit 1 unsaved (R176). -/
def statusByte (slot : MarkSlot) : Byte :=
  codeByte ((if slot.record.isSome then 1 else 0) + (if slot.unsaved then 2 else 0))

/-! ### Editing (R159 to R163) -/

/-- MARK_OPEN (R159). A missing argument is BAD_ARG before the cases are tried (R157; log 18). -/
def takeMarkOpen (h : CommandHeader) (args : List Byte) (s : State) : Answer :=
  match args with
  | [] => refuse .badArg s
  | b :: _ =>
    match markOf b with
    | none => refuse .badArg s
    | some n =>
      if s.marks.edit.isSome then refuse .locked s
      else if s.marks.save.isSome then refuse .busy s
      else if inChainSet s.control n then refuse .busy s
      else
        let opened (status : Nat) (m : Mark) : Answer :=
          let e : OpenEdit := { mark := n, staged := m, holder := h.sender, lease := 0 }
          { result := .ok, data := [b, codeByte status], state := { s with marks.edit := some e } }
        match s.marks.table[n].record, s.blend.history with
        | some m, _ => opened 1 m
        | none, some x => opened 0 (startMark x.prev)
        | none, none => refuse .badState s

/-- MARK_SET (R160). -/
def takeMarkSet (h : CommandHeader) (args : List Byte) (s : State) : Answer :=
  match args with
  | f :: b3 :: b2 :: b1 :: b0 :: _ =>
    match s.marks.edit with
    | none => refuse .notOpen s
    | some e =>
      if e.holder ≠ h.sender then refuse .locked s
      else match markFieldOf f, s.startup.config with
        | some field, some c =>
          let v := valueOf b3 b2 b1 b0
          match setMarkField c.limitLow c.limitHigh e.staged field v with
          | some m =>
            let stored := markFieldValue m field
            { result := if stored = v then .ok else .clamped, data := f :: valueBytes stored,
              state := { s with marks.edit := some { e with staged := m, lease := 0 } } }
          | none => refuse .badArg s
        | _, _ => refuse .badArg s
  | _ => refuse .badArg s

/-- MARK_CLOSE (R161). -/
def takeMarkClose (h : CommandHeader) (args : List Byte) (s : State) : Answer :=
  match args with
  | [] => refuse .badArg s
  | b :: _ =>
    match s.marks.edit with
    | none => refuse .notOpen s
    | some e =>
      if e.holder ≠ h.sender then refuse .locked s
      else if b = 0 then { result := .ok, data := [], state := { s with marks.edit := none } }
      else if b = 1 then
        if inChainSet s.control e.mark then refuse .busy s
        else
          let slot : MarkSlot := { record := some e.staged, unsaved := true }
          { result := .ok, data := [],
            state := { s with marks.edit := none, marks.table := s.marks.table.set e.mark slot } }
      else refuse .badArg s

/-- MARK_ERASE (R162). -/
def takeMarkErase (args : List Byte) (s : State) : Answer :=
  match args with
  | [] => refuse .badArg s
  | b :: _ =>
    match markOf b with
    | none => refuse .badArg s
    | some n =>
      if s.marks.save.isSome then refuse .busy s
      else if inChainSet s.control n then refuse .busy s
      else if s.marks.edit.any (fun e => e.mark == n) then refuse .locked s
      else
        let slot : MarkSlot := { record := none, unsaved := true }
        { result := .ok, data := [], state := { s with marks.table := s.marks.table.set n slot } }

/-- MARK_READ (R163). -/
def takeMarkRead (args : List Byte) (s : State) : Answer :=
  match args with
  | b :: f :: _ =>
    match markOf b, markFieldOf f with
    | some n, some field =>
      let slot := s.marks.table[n]
      match slot.record with
      | none => { result := .empty, data := [statusByte slot], state := s }
      | some m =>
        { result := .ok, data := statusByte slot :: valueBytes (markFieldValue m field), state := s }
    | _, _ => refuse .badArg s
  | _ => refuse .badArg s

/-! ### Saving (R164, R165) -/

/-- Begin the write of one slot: the store marks it (R164, R165). -/
def beginSlotWrite (n : MarkNo) (s : State) : State :=
  let slot : SavedSlot := { s.nonvolatile.slots[n] with inProgress := true }
  { s with marks.save := some { slot := n, elapsed := 0 },
           nonvolatile.slots := s.nonvolatile.slots.set n slot }

/-- SAVE (R164). -/
def takeSave (s : State) : Answer :=
  if s.marks.save.isSome || s.marks.edit.isSome then refuse .busy s
  else { result := .ok, data := [], state := beginSlotWrite 0 s }

/-- The end of one slot's write: the slot is stored, its marker cleared, and the next slot begun
(R164, R165). -/
def slotWriteEnd (s : State) : State :=
  match s.marks.save with
  | none => s
  | some p =>
    let slot := s.marks.table[p.slot]
    let saved : SavedSlot := { record := slot.record, inProgress := false }
    let clean : MarkSlot := { slot with unsaved := false }
    let s' := { s with nonvolatile.slots := s.nonvolatile.slots.set p.slot saved,
                       marks.table := s.marks.table.set p.slot clean, marks.save := none }
    if h : p.slot.val + 1 < 64 then beginSlotWrite ⟨p.slot.val + 1, h⟩ s' else s'

/-- The lease runs out: the edit closes as a discard (R158). -/
def leaseEnd (s : State) : State := { s with marks.edit := none }

/-- MARK_OPEN. -/
def execMarkOpen (h : CommandHeader) (args : List Byte) (s : State) :
    Host.Outcome State Fault Refusal :=
  .next (command h .edit (takeMarkOpen h args) s)

/-- MARK_SET. -/
def execMarkSet (h : CommandHeader) (args : List Byte) (s : State) :
    Host.Outcome State Fault Refusal :=
  .next (command h .edit (takeMarkSet h args) s)

/-- MARK_CLOSE. -/
def execMarkClose (h : CommandHeader) (args : List Byte) (s : State) :
    Host.Outcome State Fault Refusal :=
  .next (command h .edit (takeMarkClose h args) s)

/-- MARK_ERASE. -/
def execMarkErase (h : CommandHeader) (args : List Byte) (s : State) :
    Host.Outcome State Fault Refusal :=
  .next (command h .edit (takeMarkErase args) s)

/-- MARK_READ. -/
def execMarkRead (h : CommandHeader) (args : List Byte) (s : State) :
    Host.Outcome State Fault Refusal :=
  .next (command h .read (takeMarkRead args) s)

/-- SAVE. -/
def execSave (h : CommandHeader) (_args : List Byte) (s : State) : Host.Outcome State Fault Refusal :=
  .next (command h .edit takeSave s)

/-- SAVE_SLOT_WRITE_END. -/
def execSaveSlotWriteEnd (s : State) : Host.Outcome State Fault Refusal :=
  .next (whenRunning slotWriteEnd s)

/-- LEASE_EXPIRY. -/
def execLeaseExpiry (s : State) : Host.Outcome State Fault Refusal := .next (whenRunning leaseEnd s)

end Sys2Proof.Machine
end

