-- ==== Sys2Proof/Machine/Pace.lean ====
section
/-! DEFINITION. The pace unit: its update work, its PACE frames and the counted peers
(R79 to R93), with PACE_FRAME, PEER_LOST and PACE_INTERVAL. -/

namespace Sys2Proof.Machine

/-- The applied pace moved toward the target: up by T, down by 2·T, never past it (R85). -/
def slewPace (periodMs applied target : Nat) : Nat :=
  min fullPace
    (if applied < target then min target (applied + periodMs) else max target (applied - 2 * periodMs))

/-- The dial pace from the dial record (R83, R100). -/
def dialPaceNow (l : LiveUnit) : Nat :=
  match l.dial.bind (·.value) with
  | some v => dialPaceOf v
  | none => fullPace

/-- The pace target (R84). -/
def paceTargetOf (st : AxisState) (need dial : Nat) (fresh : List (Addr × Nat)) : Nat :=
  match st with
  | .running | .releasing => (fresh.map (·.2)).foldl min (min need dial)
  | _ => 0

/-- Add addresses that are not in the counted set yet (R92). -/
def joinCounted (counted : List Addr) (fresh : List (Addr × Nat)) : List Addr :=
  fresh.foldl (fun acc p => if acc.contains p.1 then acc else acc ++ [p.1]) counted

/-- The update work up to the applied pace: Veff, own need, dial pace, target, counted set, applied pace
(R87, steps 1 to 5). -/
def paceWork (c : Configuration) (s : State) : State :=
  let veff := veffOf c s.peers
  let need := ownNeedOf c veff s
  let dial := dialPaceNow s.live
  let fresh := freshNeeds (ownCue s.control) s.peers
  let target := paceTargetOf s.control.axisState need dial fresh
  { s with
    pace.veff := some veff, pace.ownNeed := need, pace.dialPace := dial, pace.target := target,
    pace.counted := if hasRun s.control.axisState then joinCounted s.pace.counted fresh
      else s.pace.counted,
    pace.applied := slewPace (periodMs c.period) s.pace.applied target }

/-- Whether a PACE frame is due on an update: a need 16 or more from the last one sent, or 50 ms since
(R90). -/
def paceDue (p : PaceUnit) : Bool :=
  match p.lastNeedSent with
  | none => true
  | some sent => decide (needChange ≤ ((p.ownNeed : Int) - sent).natAbs) ||
      p.interval.any (fun t => decide (paceIntervalMs ≤ t))

/-- The PACE frame check of an update (R87, step 7; R90; log 15). -/
def paceCheck (s : State) : State :=
  if sendsPace s.control.axisState && paceDue s.pace then sendPace s.pace.ownNeed s else s

/-- A PACE frame from a peer: it leaves the counted set when it names another cue or no state
(R92, R150). -/
def leaveCounted (sender : Addr) (p : PacePayload) (s : State) : State :=
  let leaves := some p.cue != ownCue s.control || !(p.armed || p.running || p.holding || p.waiting)
  if leaves then { s with pace.counted := s.pace.counted.filter (· != sender) } else s

/-- A PRESENT entry becomes LOST; a counted one leaves the set and is reported (R93, R149). -/
def losePeer (a : Addr) (s : State) : State :=
  if (peerAt s.peers a).any (fun e => e.presence == .present) then
    let s' := { s with peers := upsertPeer a loseEntry s.peers }
    if s.pace.counted.contains a then
      takeCountedLoss { s' with pace.counted := s.pace.counted.filter (· != a) }
    else s'
  else s

/-- The PACE interval has run: a PACE frame is queued while its timer runs (R90; log 13). DESIGN CHOICE (log 34): its
need is worked out at this moment, and becomes the own need. -/
def paceInterval (s : State) : State :=
  if s.pace.interval.isSome && sendsPace s.control.axisState then queuePace s else s

/-- PACE_INTERVAL. -/
def execPaceInterval (s : State) : Host.Outcome State Fault Refusal :=
  .next (whenRunning paceInterval s)

/-- PACE_FRAME: recorded, then shown to the pace unit (R147, R150). -/
def execPaceFrame (sender : Addr) (p : PacePayload) (s : State) : Host.Outcome State Fault Refusal :=
  .next (receive sender (recordPace p) (leaveCounted sender p) s)

/-- PEER_LOST. -/
def execPeerLost (a : Addr) (s : State) : Host.Outcome State Fault Refusal :=
  .next (whenRunning (losePeer a) s)

end Sys2Proof.Machine
end

