-- ==== Sys2Proof/Machine/Startup.lean ====
section
/-! DEFINITION. Reset, loading, configuration, parking and waking (R23, R36, R165, R166, R177 to R181), and the arm
record's expiry (R41). -/

namespace Sys2Proof.Machine

/-! ### Reset and loading (R23, R177, R178) -/

/-- Every block at its after-reset values; the nonvolatile store, the stop pin's level and the queue are
not the reset's to change (R177). -/
def resetNode (s : State) : State :=
  { State.reset with nonvolatile := s.nonvolatile, stopInput := s.stopInput, pending := s.pending }

/-- The line is released: the straps are sampled and loading starts (R177, R178). -/
def releaseReset (address : Addr) (setupStrap : Bool) (s : State) : State :=
  if s.startup.phase = .asserted then
    { s with startup.phase := .loading 0, startup.address := address, startup.setupStrap := setupStrap }
  else s

/-- The node with its store loaded, before run control chooses the first state: configuration, marks,
channel table and the figures of the blend engine (R3, R96, R111, R177). -/
def loadStore (s : State) : State :=
  let nv := s.nonvolatile
  let b := resetNode s
  { b with
    startup := { b.startup with phase := .running, address := s.startup.address,
                                setupStrap := s.startup.setupStrap, config := nv.config },
    marks.table := loadedTable nv,
    live := rebuiltLive nv.config,
    blend.aStep := (nv.config.map aStepOf).getD 1,
    blend.weightStep := (nv.config.map weightStepOf).getD 1 }

/-- The update timer and Veff of a node that starts with a configuration (R73, R112). -/
def startUpdates (c : Configuration) (s : State) : State :=
  { s with blend.timer := some 0, pace.veff := some c.velMax }

/-- The first state after a load (R23, R54, R112, R174, R179). DESIGN CHOICE (log 37): in the FAULT of address straps 0
with no stored configuration Veff is absent, as in SETUP (R73). -/
def firstState (s : State) : State :=
  if s.startup.address = 0 then
    let s := { s with control.axisState := .fault, drive.faultCause := some .addressClash,
                      drive.permanent := true }
    match s.startup.config with
    | some c => startUpdates c s
    | none => s
  else match s.startup.config with
    | none => queueState s
    | some c =>
      if s.startup.setupStrap then queueState { s with startup.staged := stagedOf c }
      else enterWaking (startUpdates c s)

/-- Loading ends (R23, R177). -/
def loadingEnd (s : State) : State :=
  match s.startup.phase with
  | .loading _ => firstState (loadStore s)
  | _ => s

/-! ### Configuration (R179 to R181) -/

/-- CONFIG_SET in SETUP (R179). -/
def takeConfigSet (args : List Byte) (s : State) : Answer :=
  match args with
  | f :: b3 :: b2 :: b1 :: b0 :: _ =>
    if s.startup.write.isSome then refuse .busy s
    else match configFieldOf f with
      | none => refuse .badArg s
      | some field =>
        let v := valueOf b3 b2 b1 b0
        match configStored field v with
        | none => refuse .badArg s
        | some stored =>
          { result := if stored = v then .ok else .clamped, data := f :: valueBytes stored,
            state := { s with startup.staged := s.startup.staged.set field (some stored) } }
  | _ => refuse .badArg s

/-- CONFIG_DONE in SETUP (R180). A staged value can always be read back as its field (log 25). -/
def takeConfigDone (s : State) : Answer :=
  if s.startup.write.isSome then refuse .busy s
  else match firstFailure s.startup.staged, configurationOf s.startup.staged with
    | some f, _ => { result := .badArg, data := [codeByte f.val], state := s }
    | none, none => { result := .badArg, data := [0], state := s }
    | none, some c =>
      { result := .ok, data := [],
        state := { s with startup.write := some { record := c, elapsed := 0 } } }

/-- The configuration write ends: the record is in force and stored, the marks are clamped, the blocks take
their figures, the update timer starts, and the node enters WAKING (R181). -/
def configWriteEnd (s : State) : State :=
  match s.startup.write with
  | none => s
  | some w =>
    let c := w.record
    enterWaking (startUpdates c
      { s with
        nonvolatile.config := some c,
        startup := { s.startup with config := some c, write := none,
                                    staged := StagedConfiguration.unset },
        marks.table := mapSlots (clampSlot c) s.marks.table,
        live := rebuiltLive (some c),
        blend.aStep := aStepOf c, blend.weightStep := weightStepOf c })

/-! ### Parking and waking (R36, R37, R166) -/

/-- Enter PARKED: enable off, an unsent PACE frame removed, live position and history absent
(R36, R129, R135). DEDUCED (log 39): the limited flag is cleared before the STATE frame of the entry is filled (R125). -/
def parkNode (s : State) : State :=
  enterState .parked
    { s with drive.enable := false, bus.paceSlot := none,
             bus.inHand := noteReplaced .pace s.bus.inHand,
             blend.live := none, blend.history := none, blend.limited := false }

/-- PARK in LIVE (R166). -/
def takePark (s : State) : Answer :=
  if lastStep s.blend = 0 ∧ s.control.arm = none then { result := .ok, data := [], state := parkNode s }
  else refuse .busy s

/-- WAKE in PARKED (R37, R166). -/
def takeWake (s : State) : Answer := { result := .ok, data := [], state := enterWaking s }

/-! ### The arm record's expiry (R41) -/

/-- The arm record expires: the armed cue takes the node to LIVE, a pending arm is dropped. -/
def armExpiry (s : State) : State :=
  if s.control.arm.isSome then
    let s := { s with control.arm := none, control.cueResult := .expired }
    if s.control.axisState = .armed then enterState .live s else s
  else s

/-- RESET. -/
def execReset (s : State) : Host.Outcome State Fault Refusal := .next (resetNode s)

/-- RESET_RELEASE. -/
def execResetRelease (address : Addr) (setupStrap : Bool) (s : State) :
    Host.Outcome State Fault Refusal :=
  .next (releaseReset address setupStrap s)

/-- LOADING_END. -/
def execLoadingEnd (s : State) : Host.Outcome State Fault Refusal := .next (loadingEnd s)

/-- CONFIG_SET. -/
def execConfigSet (h : CommandHeader) (args : List Byte) (s : State) :
    Host.Outcome State Fault Refusal :=
  .next (command h .config (takeConfigSet args) s)

/-- CONFIG_DONE. -/
def execConfigDone (h : CommandHeader) (_args : List Byte) (s : State) :
    Host.Outcome State Fault Refusal :=
  .next (command h .config takeConfigDone s)

/-- CONFIG_WRITE_END. -/
def execConfigWriteEnd (s : State) : Host.Outcome State Fault Refusal :=
  .next (whenRunning configWriteEnd s)

/-- PARK. -/
def execPark (h : CommandHeader) (_args : List Byte) (s : State) : Host.Outcome State Fault Refusal :=
  .next (command h .park takePark s)

/-- WAKE. -/
def execWake (h : CommandHeader) (_args : List Byte) (s : State) : Host.Outcome State Fault Refusal :=
  .next (command h .wake takeWake s)

/-- ARM_EXPIRY. -/
def execArmExpiry (s : State) : Host.Outcome State Fault Refusal := .next (whenRunning armExpiry s)

end Sys2Proof.Machine
end

