-- ==== Sys2Proof/Machine/Blend.lean ====
section
/-! DEFINITION. The blend engine's live and mix stages: trim and live position, weight, mix, limit chain
and stopping profile (R113 to R130). -/

namespace Sys2Proof.Machine

/-! ### The live stage (R105, R117, R118) -/

/-- Where the live increment of a state goes (R105). -/
inductive IncrementTo where
  | livePosition
  | trim
  | nowhere
  deriving DecidableEq, Repr

def incrementTo (c : RunControl) : IncrementTo :=
  match c.axisState with
  | .live | .armed | .releasing => .livePosition
  | .running | .holding | .waiting =>
    match c.run with
    | some r => match r.authority with
      | .follow => .trim
      | .share => .livePosition
    | none => .nowhere
  | _ => .nowhere

/-- The live stage: the increment is formed, added and clamped. The flag says whether a clamp changed the
sum (R125). -/
def liveStage (c : Configuration) (s : State) : State × Bool :=
  let inc := liveIncrement (periodMs c.period) s.live
  match incrementTo s.control with
  | .nowhere => (s, false)
  | .trim =>
    let sum := s.blend.trim + inc.1
    let new := clampAbs c.trimMax sum
    ({ s with live.remainder := inc.2, blend.trim := new }, new != sum)
  | .livePosition =>
    match s.blend.live with
    | none => ({ s with live.remainder := inc.2 }, false)
    | some x =>
      let sum := x + inc.1
      let new := clampInt c.limitLow c.limitHigh sum
      ({ s with live.remainder := inc.2, blend.live := some new }, new != sum)

/-! ### Weight and mix (R115, R119) -/

/-- The weight moved toward its target by the weight step, never past it (R115). -/
def stepWeight (step weight target : Nat) : Nat :=
  if weight < target then min target (weight + step) else max target (weight - step)

/-- The mix (R119). -/
def mixOf (live path trim : Int) (weight : Nat) : Int :=
  live + roundDiv ((path + trim - live) * weight) fullWeight

/-! ### The limit chain (R120 to R124) -/

/-- What the limit chain or the stopping profile makes of an update. -/
structure Shaped where
  setpoint : Int
  trim : Int
  limited : Bool
  deriving DecidableEq, Repr

/-- The trim after the position clamp has cut an excess (R120). -/
def unwindTrim (excess : Nat) (trim : Int) : Int := withSign trim (trim.natAbs - excess)

/-- The step after the velocity and approach caps (R122). -/
def capStep (c : Configuration) (veff aStep : Nat) (prev step : Int) : Int :=
  if step = 0 then 0
  else withSign step
    (min step.natAbs (min (velocityCap c veff) (approachCap c aStep prev step)))

/-- The step after the acceleration clamp (R123). -/
def clampAcceleration (aStep : Nat) (last step : Int) : Int := last + clampAbs aStep (step - last)

/-- The limit chain: position clamp with anti-windup, caps, acceleration clamp, result (R120 to R124). -/
def limitChain (c : Configuration) (veff aStep : Nat) (h : History) (trim mix : Int) : Shaped :=
  let inside := clampInt c.limitLow c.limitHigh mix
  let excess := (mix - inside).natAbs
  let wanted := inside - h.prev
  let capped := capStep c veff aStep h.prev wanted
  let step := clampAcceleration aStep (h.prev - h.prev2) capped
  let candidate := h.prev + step
  let setpoint := clampInt c.limitLow c.limitHigh candidate
  { setpoint, trim := unwindTrim excess trim,
    limited := inside != mix || capped != wanted || step != capped || setpoint != candidate }

/-- The stopping profile (R127). -/
def stoppingProfile (c : Configuration) (aStep : Nat) (h : History) (trim : Int) : Shaped :=
  let last := h.prev - h.prev2
  let shed := withSign last (last.natAbs - aStep)
  let capped := if shed = 0 then 0
    else withSign shed (min shed.natAbs (approachCap c aStep h.prev shed))
  let step := if withinLimits c (h.prev + capped) then capped else 0
  { setpoint := h.prev + step, trim, limited := capped != shed || step != capped }

/-! ### The mix stage (R113, R128, R130) -/

/-- What the mix stage hands on: the state, the pair for the drive link, and its reports. -/
structure MixResult where
  state : State
  pair : Option (Int × Int)
  atRest : Bool
  weightAtZero : Bool

/-- Take an update's setpoint into the history, with its feed-forward (R124, R130). -/
def takeSetpoint (c : Configuration) (h : History) (r : Shaped) (s : State) : State × (Int × Int) :=
  let step := r.setpoint - h.prev
  ({ s with blend.history := some { prev := r.setpoint, prev2 := h.prev }, blend.trim := r.trim,
            blend.limited := s.blend.limited || r.limited },
   (r.setpoint, step * (1000 / periodMs c.period : Nat)))

/-- The mix stage of a state that mixes (R113, R115, R119 to R126). In RELEASING the trim keeps its value: the
anti-windup of R120 leaves it there (R31, R117; DEDUCED, log 33). -/
def mixedUpdate (c : Configuration) (path : Option Int) (h : History) (s : State) : MixResult :=
  let st := s.control.axisState
  let w := if hasRun st then stepWeight s.blend.weightStep s.blend.weight s.blend.weightTarget else 0
  let x := s.blend.live.getD h.prev
  let m := mixOf x (path.getD x) s.blend.trim w
  let r := limitChain c (s.pace.veff.getD c.velMax) s.blend.aStep h s.blend.trim m
  let kept := if st = .releasing then s.blend.trim else r.trim
  let (s', pair) := takeSetpoint c h { r with trim := kept } { s with blend.weight := w }
  { state := if hasRun st then s' else { s' with blend.live := some r.setpoint },
    pair := some pair, atRest := false, weightAtZero := st == .releasing && w == 0 }

/-- The mix stage of HALTED and FAULT (R127, R128). -/
def stoppedUpdate (c : Configuration) (s : State) : MixResult :=
  match s.blend.history with
  | some h =>
    let r := stoppingProfile c s.blend.aStep h s.blend.trim
    let (s', pair) := takeSetpoint c h r s
    { state := s', pair := some pair, atRest := r.setpoint == h.prev, weightAtZero := false }
  | none => { state := s, pair := none, atRest := true, weightAtZero := false }

/-- The mix stage by axis state; the limited flag starts from the live stage's clamps (R113, R125). -/
def mixStage (c : Configuration) (path : Option Int) (clamped : Bool) (s : State) : MixResult :=
  match s.control.axisState with
  | .live | .armed | .running | .holding | .waiting | .releasing =>
    let s := { s with blend.limited := clamped }
    match s.blend.history with
    | some h => mixedUpdate c path h s
    | none => { state := s, pair := none, atRest := false, weightAtZero := false }
  | .halted | .fault => stoppedUpdate c { s with blend.limited := false }
  | .waking =>
    let s := { s with blend.limited := false }
    match s.blend.history with
    | some h =>
      { state := { s with blend.history := some { prev := h.prev, prev2 := h.prev } },
        pair := some (h.prev, 0), atRest := false, weightAtZero := false }
    | none => { state := s, pair := none, atRest := false, weightAtZero := false }
  | .setup | .parked =>
    { state := { s with blend.limited := false }, pair := none, atRest := false, weightAtZero := false }

/-- Run control takes the reports of the mix stage: HALTED at rest with the stop input active, and
RELEASING with the weight at 0, enter LIVE (R31, R33, R128). -/
def takeReports (m : MixResult) (s : State) : State :=
  match s.control.axisState with
  | .halted => if m.atRest && s.stopInput then enterLiveAt (presentSetpoint s.blend) s else s
  | .releasing => if m.weightAtZero then enterState .live s else s
  | _ => s

end Sys2Proof.Machine
end

