-- ==== Sys2Proof/Machine/Update.lean ====
section
/-! DEFINITION. UPDATE: the three stages of an update and the drive exchange (R56, R112). -/

namespace Sys2Proof.Machine

/-- Advance the path clock of a run and take the arrival it reaches; the path position is worked out before
the arrival is taken (R57, R58, R63). -/
def advancePath (c : Configuration) (r : RunContext) (s : State) : State × Option Int :=
  let (g, rem) := advanceClock s.pace.applied (periodMs c.period) r.remainder r.segment
  let s := { s with control.run := some { r with segment := g, remainder := rem } }
  (if g.tau = segmentEnd g then takeArrival s else s, some (pathPosition g))

/-- The path generator's work by axis state (R56). -/
def pathStage (c : Configuration) (s : State) : State × Option Int :=
  match s.control.run with
  | none => (s, none)
  | some r =>
    match s.control.axisState with
    | .running | .holding => advancePath c r s
    | .waiting => (s, some (endPosition r.segment))
    | .releasing => if r.frozen then (s, some (endPosition r.segment)) else advancePath c r s
    | _ => (s, none)

/-- One update under a configuration (R112): the path stage with the pace unit's work around it (R87), the
live stage, the mix stage, the drive exchange and the reports (log 15, log 22). -/
def runUpdate (c : Configuration) (s : State) : State :=
  let (s, path) := pathStage c (paceWork c s)
  let (s, clamped) := liveStage c (paceCheck s)
  let m := mixStage c path clamped s
  takeReports m (exchangeStage c m.pair m.state)

/-- An expiry of the update timer: an update while the timer runs (R112). -/
def update (s : State) : State :=
  match s.startup.config, s.blend.timer with
  | some c, some _ => runUpdate c { s with blend.timer := some 0 }
  | _, _ => s

/-- UPDATE. -/
def execUpdate (s : State) : Host.Outcome State Fault Refusal := .next (whenRunning update s)

end Sys2Proof.Machine
end

