-- ==== Sys2Proof/Machine/Dispatch.lean ====
section
/-! DEFINITION. Which command has which meaning: one arm for each row of the table. -/

namespace Sys2Proof.Machine

/-- The effect of a command on everything but the queue. -/
def exec (i : Instr) (s : State) : Host.Outcome State Fault Refusal :=
  match i with
  | .reset => Sys2Proof.Machine.execReset s
  | .resetRelease address setupStrap => Sys2Proof.Machine.execResetRelease address setupStrap s
  | .loadingEnd => Sys2Proof.Machine.execLoadingEnd s
  | .update => Sys2Proof.Machine.execUpdate s
  | .paceInterval => Sys2Proof.Machine.execPaceInterval s
  | .driveLost => Sys2Proof.Machine.execDriveLost s
  | .following => Sys2Proof.Machine.execFollowing s
  | .feedbackRecord seq ready position => Sys2Proof.Machine.execFeedbackRecord seq ready position s
  | .stopInputChange active => Sys2Proof.Machine.execStopInputChange active s
  | .settleTimerExpiry => Sys2Proof.Machine.execSettleTimerExpiry s
  | .armExpiry => Sys2Proof.Machine.execArmExpiry s
  | .demandStale => Sys2Proof.Machine.execDemandStale s
  | .channelRelease channel => Sys2Proof.Machine.execChannelRelease channel s
  | .grab => Sys2Proof.Machine.execGrab s
  | .peerLost address => Sys2Proof.Machine.execPeerLost address s
  | .leaseExpiry => Sys2Proof.Machine.execLeaseExpiry s
  | .saveSlotWriteEnd => Sys2Proof.Machine.execSaveSlotWriteEnd s
  | .configWriteEnd => Sys2Proof.Machine.execConfigWriteEnd s
  | .stateInterval => Sys2Proof.Machine.execStateInterval s
  | .haltFrame sender cause => Sys2Proof.Machine.execHaltFrame sender cause s
  | .arm sender cue first => Sys2Proof.Machine.execArm sender cue first s
  | .go sender cue nest => Sys2Proof.Machine.execGo sender cue nest s
  | .hold sender cue => Sys2Proof.Machine.execHold sender cue s
  | .resume sender cue => Sys2Proof.Machine.execResume sender cue s
  | .abort sender cue => Sys2Proof.Machine.execAbort sender cue s
  | .returnCue sender cue duration => Sys2Proof.Machine.execReturnCue sender cue duration s
  | .demandFrame sender payload => Sys2Proof.Machine.execDemandFrame sender payload s
  | .paceFrame sender payload => Sys2Proof.Machine.execPaceFrame sender payload s
  | .stateFrame sender payload => Sys2Proof.Machine.execStateFrame sender payload s
  | .replyFrame sender requester tag result data => Sys2Proof.Machine.execReplyFrame sender requester tag result data s
  | .poll sender target => Sys2Proof.Machine.execPoll sender target s
  | .markOpen header args => Sys2Proof.Machine.execMarkOpen header args s
  | .markSet header args => Sys2Proof.Machine.execMarkSet header args s
  | .markClose header args => Sys2Proof.Machine.execMarkClose header args s
  | .markErase header args => Sys2Proof.Machine.execMarkErase header args s
  | .markRead header args => Sys2Proof.Machine.execMarkRead header args s
  | .save header args => Sys2Proof.Machine.execSave header args s
  | .park header args => Sys2Proof.Machine.execPark header args s
  | .wake header args => Sys2Proof.Machine.execWake header args s
  | .clear header args => Sys2Proof.Machine.execClear header args s
  | .peerRead header args => Sys2Proof.Machine.execPeerRead header args s
  | .configSet header args => Sys2Proof.Machine.execConfigSet header args s
  | .configDone header args => Sys2Proof.Machine.execConfigDone header args s
  | .unknownCommand header code args => Sys2Proof.Machine.execUnknownCommand header code args s
  | .frameSendStart => Sys2Proof.Machine.execFrameSendStart s
  | .lostContention => Sys2Proof.Machine.execLostContention s
  | .echoError => Sys2Proof.Machine.execEchoError s
  | .frameDrop => Sys2Proof.Machine.execFrameDrop s
  | .frameSentIntact => Sys2Proof.Machine.execFrameSentIntact s
  | .cueUnknownVerb sender verb cue => Sys2Proof.Machine.execCueUnknownVerb sender verb cue s

end Sys2Proof.Machine
end

