-- ==== Sys2Proof/Machine/Tick.lean ====
section
/-! DEFINITION. One millisecond with no command waiting: every running timer and age counts, and what falls
due is taken (DESIGN CHOICE, log 2, log 3). -/

namespace Sys2Proof.Machine

/-- Whether a running timer has reached a time. -/
def hasReached (time : Nat) (t : Option Nat) : Bool := t.any fun n => decide (time ≤ n)

/-- The longest STATE interval (R174). -/
def longestStateMs : Nat := 1000

/-- One ms for the timers of run control and of the pace unit (R25, R41, R90). -/
def ageControl (s : State) : State :=
  { s with
    control.settle := timerUp settleMs s.control.settle,
    control.arm := s.control.arm.map fun a => { a with age := countUp armLifeMs a.age },
    pace.interval := timerUp paceIntervalMs s.pace.interval }

/-- One ms for the ages of channels and peers, and for the grab timer (R95, R108, R148). -/
def ageHeard (s : State) : State :=
  { s with
    live.demand := s.live.demand.map ageRecord, live.dial := s.live.dial.map ageRecord,
    live.grabTimer := timerUp grabMs s.live.grabTimer, peers := s.peers.map agePeer }

/-- One ms for the lease and for the writes of the nonvolatile store (R158, R164, R180). -/
def ageStores (s : State) : State :=
  { s with
    marks.edit := s.marks.edit.map fun e => { e with lease := countUp leaseMs e.lease },
    marks.save := s.marks.save.map fun p => { p with elapsed := countUp slotWriteMs p.elapsed },
    startup.write := s.startup.write.map fun w => { w with elapsed := countUp configWriteMs w.elapsed } }

/-- One ms for the update timer, the STATE interval and the clash age (R112, R142, R174). -/
def ageClocks (s : State) : State :=
  { s with
    blend.timer := s.blend.timer.map (· + 1), bus.stateTimer := timerUp longestStateMs s.bus.stateTimer,
    drive.clashAge := timerUp clashQuietMs s.drive.clashAge }

/-- Every timer and age one ms on. -/
def ageAll (s : State) : State := ageClocks (ageStores (ageHeard (ageControl s)))

/-- Do an event where it is due. -/
def whenDue (due : State → Bool) (f : State → State) (s : State) : State := if due s then f s else s

/-- A record's value has passed its hold and is not yet stale (R95, R99; log 24). -/
def staleDue (r : Option ChannelRecord) : Bool := r.any fun r => !r.stale && decide (demandHoldMs ≤ r.age)

/-- A record's owner has been silent for 500 ms (R98). -/
def releaseDue (r : Option ChannelRecord) : Bool :=
  r.any fun r => r.owner.isSome && decide (releaseMs ≤ r.age)

/-- The PRESENT entries not heard from for 1000 ms (R149). -/
def silentPeers (s : State) : List Addr :=
  (s.peers.filter fun e => e.presence == .present && decide (lostMs ≤ e.heardAge)).map (·.address)

/-- The settle timer and the arm record's life (R25, R41). -/
def dueControl (s : State) : State :=
  whenDue (fun s => s.control.arm.any fun a => decide (armLifeMs ≤ a.age)) armExpiry
    (whenDue (fun s => hasReached settleMs s.control.settle) settleExpiry s)

/-- Stale values, silent owners, silent peers and a grab (R95, R98, R99, R100, R109, R149). -/
def dueHeard (s : State) : State :=
  let s := whenDue (fun s => staleDue s.live.demand) staleDemand s
  let s := whenDue (fun s => staleDue s.live.dial) staleDial s
  let s := whenDue (fun s => releaseDue s.live.demand) (releaseChannel .demand) s
  let s := whenDue (fun s => releaseDue s.live.dial) (releaseChannel .dial) s
  let s := (silentPeers s).foldl (fun s a => losePeer a s) s
  whenDue (fun s => hasReached grabMs s.live.grabTimer) grabExpiry s

/-- The lease, a slot's write and the configuration write (R158, R164, R181). -/
def dueStores (s : State) : State :=
  let s := whenDue (fun s => s.marks.edit.any fun e => decide (leaseMs ≤ e.lease)) leaseEnd s
  let s := whenDue (fun s => s.marks.save.any fun p => decide (slotWriteMs ≤ p.elapsed)) slotWriteEnd s
  whenDue (fun s => s.startup.write.any fun w => decide (configWriteMs ≤ w.elapsed)) configWriteEnd s

/-- The update timer has run a period (R112). -/
def updateDue (s : State) : Bool :=
  s.startup.config.any fun c => hasReached (periodMs c.period) s.blend.timer

/-- The STATE interval, and last the update (R112, R174). The PACE interval is looked at in the update
(R90; log 13). -/
def dueClocks (s : State) : State :=
  whenDue updateDue update
    (whenDue (fun s => hasReached (stateIntervalMs s.control.axisState) s.bus.stateTimer)
      stateInterval s)

/-- One ms: nothing while the reset line is asserted; loading goes on, to its longest (R177); a running node
counts and takes what is due. -/
def tick (s : State) : State :=
  match s.startup.phase with
  | .asserted => s
  | .loading n =>
    if loadingMaxMs ≤ n + 1 then loadingEnd s else { s with startup.phase := .loading (n + 1) }
  | .running => dueClocks (dueStores (dueHeard (dueControl (ageAll s))))

end Sys2Proof.Machine
end

