-- ==== Sys2Proof/Machine/Frame.lean ====
section
/-! DEFINITION. The frames the node sends, as they stand on the line (R167, R176). -/

namespace Sys2Proof.Machine

/-- The kind of a frame of the node. -/
def sentKindOf : SentFrame → SentKind
  | .halt _ => .halt
  | .pace _ => .pace
  | .state _ => .state
  | .reply _ => .reply

/-- A bit in its place. -/
def flagBit (place : Nat) (b : Bool) : Nat := if b then 2 ^ place else 0

/-- The payload of a frame of the node (R176). -/
def sentPayload : SentFrame → List Byte
  | .halt c => [codeByte (causeCode (faultAsCause c))]
  | .pace p =>
    halfBytes p.need ++
      [p.cue,
       codeByte (flagBit 0 p.armed + flagBit 1 p.running + flagBit 2 p.holding + flagBit 3 p.waiting +
         flagBit 4 p.limited),
       codeByte p.destination.val]
  | .state f =>
    [codeByte (axisKindField f.axisKind + flagBit 5 f.saving + flagBit 6 f.recentre +
       flagBit 7 f.limited),
     codeByte (axisStateCode f.axisState + 16 * cueResultCode f.cueResult),
     f.cue,
     codeByte (causeField f.cause + flagBit 4 f.pendingArm + flagBit 5 f.position.isSome)] ++
      valueBytes (f.position.getD 0)
  | .reply r => [r.requester.setWidth 8, r.tag, codeByte (resultCode r.result)] ++ r.data

/-- A frame of the node at an address, between its start bit and its end (R167). -/
def rawFrame (address : Addr) (f : SentFrame) : RawFrame :=
  let identifier := identifierOf (sentKindCode (sentKindOf f)) address
  let payload := sentPayload f
  let length := BitVec.ofNat 4 payload.length
  { identifier, length, payload, check := frameCheck identifier length payload }

/-- The bits of a frame on the line, dominant as false: the start bit, the frame, and the 88 recessive
bits of its end (R167). -/
def lineBits (f : RawFrame) : List Bool :=
  false :: (checkedBits f.identifier f.length f.payload ++ bitsMsb f.check ++ List.replicate 88 true)

/-- An error mark: 96 dominant bits (R169). -/
def errorMarkBits : List Bool := List.replicate 96 false

/-- The bits the node puts on the line (R167, R169). -/
def outputBits : LineOutput → List Bool
  | .silent => []
  | .frame sender f => lineBits (rawFrame sender f)
  | .errorMark => errorMarkBits

end Sys2Proof.Machine
end

