-- ==== Sys2Proof/Safety.lean ====
section
/-! DEFINITION. What a safe state of the node is: the laws the chapters give over all states, each a predicate
on one state, and the reachability of marks that R5 speaks of. -/

namespace Sys2Proof.Machine

/-! ### What a frame meets -/

/-- The node takes a frame of this sender: loading has ended, and the frame does not bear the node's own
address (R146, R152, R172). -/
abbrev Accepts (sender : Addr) (s : State) : Prop :=
  s.startup.phase = .running ∧ (sender = 0 ∨ sender ≠ s.startup.address)

/-- The node acts on a COMMAND and has room for its reply: it takes the frame, the requester has an address,
the target is this node or all, and at most 3 replies wait (R154, R155, R156). -/
abbrev Taken (h : CommandHeader) (s : State) : Prop :=
  Accepts h.sender s ∧ h.sender ≠ 0 ∧ (h.target = 0 ∨ h.target = s.startup.address) ∧
    s.drive.permanent = false ∧ s.bus.replies.length < replyRoom

/-- The node with the sender of a frame recorded as heard, and nothing else (R147). -/
def heardFrom (sender : Addr) (s : State) : State := hear sender recordAny s

/-- The states that take mark commands, MARK_READ and PEER_READ (R156). -/
abbrev TakesMarkCommands (st : AxisState) : Prop := working st = true ∨ st = .halted ∨ st = .fault

/-- A cue number that matches a record's: 0 stands for any (R38). -/
abbrev Matches (cue own : CueNo) : Prop := cue = 0 ∨ cue = own

/-- The sender address a received frame bears (R167, R176); an event bears none. -/
def frameSender : Instr → Option Addr
  | .haltFrame a _ | .arm a _ _ | .go a _ _ | .hold a _ | .resume a _ | .abort a _ | .returnCue a _ _
  | .cueUnknownVerb a _ _ | .demandFrame a _ | .paceFrame a _ | .stateFrame a _ | .replyFrame a _ _ _ _
  | .poll a _ => some a
  | .markOpen h _ | .markSet h _ | .markClose h _ | .markErase h _ | .markRead h _ | .save h _ | .park h _
  | .wake h _ | .clear h _ | .peerRead h _ | .configSet h _ | .configDone h _ | .unknownCommand h _ _ =>
    some h.sender
  | .reset | .resetRelease _ _ | .loadingEnd | .update | .paceInterval | .driveLost | .following
  | .feedbackRecord _ _ _ | .stopInputChange _ | .settleTimerExpiry | .armExpiry | .demandStale
  | .channelRelease _ | .grab | .peerLost _ | .leaseExpiry | .saveSlotWriteEnd | .configWriteEnd
  | .stateInterval | .frameSendStart | .lostContention | .echoError | .frameDrop | .frameSentIntact => none

/-- Two states alike but for run control's records, the outbox with its timers, the figures a queued PACE frame
sets, and the grab timer: what a change among the states with a run can touch (R88, R108, R174). -/
def ChangedAmongRuns (s t : State) : Prop :=
  t = { s with
    control := t.control,
    live := { s.live with grabTimer := t.live.grabTimer },
    pace := { s.pace with ownNeed := t.pace.ownNeed, lastNeedSent := t.pace.lastNeedSent,
                          interval := t.pace.interval },
    drive := { s.drive with faultCause := none },
    bus := { s.bus with paceSlot := t.bus.paceSlot, stateSlot := t.bus.stateSlot,
                        inHand := t.bus.inHand, stateTimer := t.bus.stateTimer } }

/-! ### Changes of axis state -/

/-- The node halted with a cause: run, arm and stack are dropped, weight, trim and paces are 0, and a STATE frame with
the cause is queued; nothing else changes (R21, R32, R74, R106, R115, R117, R174). -/
def HaltedFrom (cause : Cause) (s t : State) : Prop :=
  ∃ f : StateFrame, f.axisState = .halted ∧ f.cause = some cause ∧
    let control : RunControl :=
      { axisState := .halted, run := none, arm := none, stack := [], cueResult := s.control.cueResult,
        haltCause := some cause, holdCause := none, settle := none }
    let pace : PaceUnit :=
      { s.pace with target := 0, applied := 0, lastNeedSent := none, interval := none, counted := [] }
    let bus : BusController :=
      { s.bus with stateSlot := some f, inHand := noteReplaced .state s.bus.inHand, stateTimer := some 0 }
    t = { s with control, pace, bus,
                 live := { s.live with remainder := 0, grabTimer := none },
                 blend := { s.blend with weight := 0, weightTarget := 0, trim := 0 },
                 drive := { s.drive with faultCause := none } }

/-- The node in FAULT with a cause: run, arm and stack are dropped, the enable output goes off for a lost or misplaced
drive, and a HALT and a STATE frame with the cause are queued; nothing else changes (R34, R54, R135, R140, R174). -/
def FaultedFrom (cause : FaultCause) (s t : State) : Prop :=
  ∃ f : StateFrame, f.axisState = .fault ∧ f.cause = some (faultAsCause cause) ∧
    let control : RunControl :=
      { axisState := .fault, run := none, arm := none, stack := [], cueResult := s.control.cueResult,
        haltCause := none, holdCause := none, settle := none }
    let pace : PaceUnit :=
      { s.pace with target := 0, applied := 0, lastNeedSent := none, interval := none, counted := [] }
    let bus : BusController :=
      { s.bus with haltSlot := some cause, stateSlot := some f,
                   inHand := noteReplaced .halt (noteReplaced .state s.bus.inHand), stateTimer := some 0 }
    let enable : Bool := if cause = .driveLost ∨ cause = .outOfRange then false else s.drive.enable
    let intact : Bool := if cause = .link then false else s.drive.linkIntact
    let awaited : Bool := s.drive.linkAwaited || cause == .link
    t = { s with control, pace, bus,
                 live := { s.live with remainder := 0, grabTimer := none },
                 blend := { s.blend with weight := 0, weightTarget := 0, trim := 0 },
                 drive := { s.drive with faultCause := some cause, enable, linkIntact := intact,
                                         linkAwaited := awaited } }

/-- The node in LIVE, without run and stack: the arm record, the setpoints and the interlock stand as they were, and a
STATE frame is queued (R21, R74, R106, R115, R117, R174). -/
def LiveFrom (s t : State) : Prop :=
  ∃ f : StateFrame, f.axisState = .live ∧ f.cause = none ∧
    let control : RunControl :=
      { axisState := .live, run := none, arm := s.control.arm, stack := [], cueResult := s.control.cueResult,
        haltCause := none, holdCause := none, settle := none }
    let pace : PaceUnit :=
      { s.pace with target := 0, applied := 0, lastNeedSent := none, interval := none, counted := [] }
    let bus : BusController :=
      { s.bus with stateSlot := some f, inHand := noteReplaced .state s.bus.inHand, stateTimer := some 0 }
    t = { s with control, pace, bus,
                 live := { s.live with remainder := 0, grabTimer := none },
                 blend := { s.blend with weight := 0, weightTarget := 0, trim := 0 },
                 drive := { s.drive with faultCause := none } }

/-- The same with the live position at a setpoint, the interlock set and the live velocity 0 (R25, R33, R104, R107). -/
def LiveAt (x : Option Int) (s t : State) : Prop :=
  LiveFrom { s with live := { s.live with recentre := true, velocity := 0 },
                    blend := { s.blend with live := x } } t

/-- Run control in a state with a run, its run, arm record, stack and cue result as they were (R21). -/
def inRun (st : AxisState) (hold : Option HoldCause) (c : RunControl) : RunControl :=
  { c with axisState := st, holdCause := hold, haltCause := none, settle := none }

/-- The frames that tell the rig of a change among the states with a run: a STATE frame and a PACE frame (R88, R89,
R174). -/
def Announced (t : State) : Prop :=
  (∃ f, t.bus.stateSlot = some f ∧ f.axisState = t.control.axisState ∧ f.cause = shownCause t) ∧
  (∃ p, t.bus.paceSlot = some p ∧ p.running = (t.control.axisState == .running) ∧
    p.holding = (t.control.axisState == .holding) ∧ p.waiting = (t.control.axisState == .waiting))

/-- What a STATE frame shows of the node that fills it (R54, R175). -/
structure Shows (s : State) (f : StateFrame) : Prop where
  axis_kind : f.axisKind = s.startup.config.map (·.axisKind)
  axis_state : f.axisState = s.control.axisState
  cue_result : f.cueResult = s.control.cueResult
  running_cue : ∀ r, hasRun s.control.axisState = true → s.control.run = some r → f.cue = r.cue
  armed_cue : ∀ a, s.control.axisState = .armed ∨ s.control.axisState = .live →
    s.control.arm = some a → f.cue = a.cue
  no_cue : s.control.axisState = .live ∧ s.control.arm = none ∨
    (s.control.axisState ≠ .live ∧ sendsPace s.control.axisState = false) → f.cue = 0
  halt_cause : s.control.axisState = .halted → f.cause = s.control.haltCause
  hold_cause : s.control.axisState = .holding → f.cause = s.control.holdCause.map holdAsCause
  fault_cause : s.control.axisState = .fault → f.cause = s.drive.faultCause.map faultAsCause
  no_cause : s.control.axisState ≠ .halted → s.control.axisState ≠ .holding →
    s.control.axisState ≠ .fault → f.cause = none
  pending_arm : f.pendingArm = true ↔ s.control.arm ≠ none ∧ s.control.axisState ≠ .armed
  saving : f.saving = true ↔ s.marks.save ≠ none
  recentre : f.recentre = s.live.recentre
  limited : f.limited = s.blend.limited
  position : ∀ x : Option Int, (x = match s.blend.history with
      | some h => some h.prev
      | none => s.drive.lastFeedback) →
    f.position = match s.startup.config with
      | some c => if c.axisKind = .telescope
        then x.map fun x => (c.baseLength.getD 0 : Int) + Int.tdiv x 1000 else x
      | none => x

/-- A mark that a run, an arm record or a stacked context holds in its chain set (R7). -/
abbrev HeldInAChain (c : RunControl) (n : MarkNo) : Prop :=
  (∃ r, c.run = some r ∧ n ∈ r.chainSet) ∨ (∃ a, c.arm = some a ∧ n ∈ a.chainSet) ∨
    (∃ r ∈ c.stack, n ∈ r.chainSet)

/-! ### Time -/

/-- No timer and no age of a running node reaches its mark within the next millisecond
(R25, R41, R90, R98, R99, R109, R112, R149, R158, R164, R174, R180). -/
structure NothingDue (s : State) : Prop where
  settle : ∀ n, s.control.settle = some n → n + 1 < 200
  arm : ∀ a, s.control.arm = some a → a.age + 1 < 30000
  stale : ∀ r, s.live.demand = some r ∨ s.live.dial = some r → r.stale = true ∨ r.age + 1 < 100
  owner : ∀ r, s.live.demand = some r ∨ s.live.dial = some r → r.owner = none ∨ r.age + 1 < 500
  grab : ∀ n, s.live.grabTimer = some n → n + 1 < 200
  peers : ∀ e ∈ s.peers, e.presence = .present → e.heardAge + 1 < 1000
  lease : ∀ e, s.marks.edit = some e → e.lease + 1 < 2000
  slot : ∀ p, s.marks.save = some p → p.elapsed + 1 < 5
  write : ∀ w, s.startup.write = some w → w.elapsed + 1 < 100
  state : ∀ n, s.bus.stateTimer = some n → n + 1 < (match s.control.axisState with
    | .parked => 1000
    | .setup | .waking | .live | .armed => 100
    | .running | .holding | .waiting | .releasing | .halted | .fault => 20)
  update : ∀ c n, s.startup.config = some c → s.blend.timer = some n → n + 1 < periodMs c.period

/-- A channel record one millisecond on: its age counts once a frame has been taken (R95, R99; log 24). -/
def olderRecord (r : ChannelRecord) : ChannelRecord :=
  if r.value = none then r else { r with age := min 65535 (r.age + 1) }

/-- Every timer and age of a running node one millisecond on, each to its ceiling
(4.6, R22, R25, R90, R95, R108, R112, R142, R145, R158, R164, R174, R180). -/
def oneMsLater (s : State) : State :=
  let upTo (ceiling n : Nat) : Nat := min ceiling (n + 1)
  { s with
    control := { s.control with settle := s.control.settle.map (upTo 200),
                                arm := s.control.arm.map fun a => { a with age := upTo 30000 a.age } },
    pace := { s.pace with interval := s.pace.interval.map (upTo 50) },
    live := { s.live with demand := s.live.demand.map olderRecord, dial := s.live.dial.map olderRecord,
                          grabTimer := s.live.grabTimer.map (upTo 200) },
    peers := s.peers.map fun e => { e with heardAge := upTo 65535 e.heardAge,
                                           paceAge := upTo 65535 e.paceAge,
                                           stateAge := upTo 65535 e.stateAge },
    marks := { s.marks with
      edit := s.marks.edit.map fun e => { e with lease := upTo 2000 e.lease },
      save := s.marks.save.map fun p => { p with elapsed := upTo 5 p.elapsed } },
    startup := { s.startup with
      write := s.startup.write.map fun w => { w with elapsed := upTo 100 w.elapsed } },
    blend := { s.blend with timer := s.blend.timer.map (· + 1) },
    bus := { s.bus with stateTimer := s.bus.stateTimer.map (upTo 1000) },
    drive := { s.drive with clashAge := s.drive.clashAge.map (upTo 1000) } }

/-- Whether the timer or age of an event has reached the event's mark
(R25, R41, R98, R99, R109, R112, R149, R158, R164, R174, R180). A command of another kind never falls due. -/
def fallenDue (s : State) : Instr → Bool
  | .settleTimerExpiry => s.control.settle.any fun n => decide (200 ≤ n)
  | .armExpiry => s.control.arm.any fun a => decide (30000 ≤ a.age)
  | .demandStale => s.live.demand.any fun r => !r.stale && decide (100 ≤ r.age)
  | .channelRelease .demand => s.live.demand.any fun r => r.owner.isSome && decide (500 ≤ r.age)
  | .channelRelease .dial => s.live.dial.any fun r => r.owner.isSome && decide (500 ≤ r.age)
  | .peerLost a => s.peers.any fun e =>
      e.address == a && e.presence == .present && decide (1000 ≤ e.heardAge)
  | .grab => s.live.grabTimer.any fun n => decide (200 ≤ n)
  | .leaseExpiry => s.marks.edit.any fun e => decide (2000 ≤ e.lease)
  | .saveSlotWriteEnd => s.marks.save.any fun p => decide (5 ≤ p.elapsed)
  | .configWriteEnd => s.startup.write.any fun w => decide (100 ≤ w.elapsed)
  | .stateInterval => s.bus.stateTimer.any fun n => match s.control.axisState with
      | .parked => decide (1000 ≤ n)
      | .setup | .waking | .live | .armed => decide (100 ≤ n)
      | .running | .holding | .waiting | .releasing | .halted | .fault => decide (20 ≤ n)
  | .update => s.startup.config.any fun c => s.blend.timer.any fun n => decide (periodMs c.period ≤ n)
  | _ => false

/-- A state with an event taken by the meaning of its command, where it has fallen due. -/
def takeWhenDue (s : State) (event : Instr) : State :=
  if fallenDue s event then
    match exec event s with
    | .next t => t
    | .fault _ | .refused _ => s
  else s

/-! ### The arithmetic the chapters speak of -/

/-- The ease value at a progress, as a rational number (R60, R61, R62). -/
def easeAt (e : Ease) (u : ℚ) : ℚ :=
  match e with
  | .cubic => 3 * u ^ 2 - 2 * u ^ 3
  | .quintic => 6 * u ^ 5 - 15 * u ^ 4 + 10 * u ^ 3
  | .cruise =>
    if u ≤ 1 / 4 then 8 / 3 * u ^ 2
    else if u ≤ 3 / 4 then 4 / 3 * u - 1 / 6
    else 1 - 8 / 3 * (1 - u) ^ 2

/-- A rational number rounded to nearest, halves away from zero (00_scope 4.2). -/
def roundHalfAway (x : ℚ) : Int := if 0 ≤ x then ⌊x + 1 / 2⌋ else -⌊-x + 1 / 2⌋

/-! ### Run control -/

/-- The records run control and the drive link hold are those of the axis state: a run context in RUNNING,
HOLDING, WAITING and RELEASING alone, the causes in their own states, at most 3 stacked contexts
(R21, R22, R50, R131). -/
structure RecordsFit (s : State) : Prop where
  run_present : s.control.run.isSome = hasRun s.control.axisState
  arm_allowed : s.control.arm.isSome = true → working s.control.axisState = true
  armed_cue : s.control.axisState = .armed → s.control.arm.isSome = true
  stack_allowed : s.control.stack ≠ [] → keepsStack s.control.axisState = true
  stack_room : s.control.stack.length ≤ stackRoom
  halt_cause : s.control.haltCause.isSome = (s.control.axisState == .halted)
  hold_cause : s.control.holdCause.isSome = (s.control.axisState == .holding)
  settle_timer : s.control.settle.isSome = (s.control.axisState == .waking)
  fault_cause : s.drive.faultCause.isSome = (s.control.axisState == .fault)

/-- A node that steers its axis has its stop input active (R32, R139). -/
abbrev StopRespected (s : State) : Prop :=
  s.startup.phase = .running → working s.control.axisState = true → s.stopInput = true

/-! ### Pace and blend -/

/-- The applied pace lies in 0 … 1024, and is 0 without a run context (R74, R85). -/
abbrev PaceBounded (s : State) : Prop :=
  s.pace.applied ≤ fullPace ∧ (hasRun s.control.axisState = false → s.pace.applied = 0)

/-- Without a run the weight, its target and the trim are 0, and the trim never passes TRIM_MAX
(R115, R117). -/
structure BlendAtRest (s : State) : Prop where
  weight_zero : hasRun s.control.axisState = false → s.blend.weight = 0
  target_zero : hasRun s.control.axisState = false → s.blend.weightTarget = 0
  trim_zero : hasRun s.control.axisState = false → s.blend.trim = 0
  trim_bounded : ∀ c, s.startup.config = some c → s.blend.trim.natAbs ≤ c.trimMax

/-- The weight and its target lie in 0 … 4096, and so does every share a target is taken from: of the marks and their
saved and staged copies, the arm record, the run and the stacked runs (R1, R21, R22, R114, R115). -/
structure WeightsBounded (s : State) : Prop where
  weight : s.blend.weight ≤ fullWeight
  target : s.blend.weightTarget ≤ fullWeight
  run : ∀ r, s.control.run = some r → r.share ≤ fullWeight
  arm : ∀ a, s.control.arm = some a → a.share ≤ fullWeight
  stack : ∀ r ∈ s.control.stack, r.share ≤ fullWeight
  marks : ∀ (n : MarkNo) m, s.marks.table[n].record = some m → m.share ≤ fullWeight
  saved : ∀ (n : MarkNo) m, s.nonvolatile.slots[n].record = some m → m.share ≤ fullWeight
  staged : ∀ e, s.marks.edit = some e → e.staged.share ≤ fullWeight

/-- A position within a configuration's limits. -/
abbrev Within (c : Configuration) (x : Int) : Prop := c.limitLow ≤ x ∧ x ≤ c.limitHigh

/-- The limits of a configuration are in order (R180). -/
abbrev LimitsOrdered (c : Configuration) : Prop := c.limitLow < c.limitHigh

/-- The setpoints and the live position lie within the limits, and are there whenever the node steers its
axis or has captured it in WAKING; a halted node and a drive that is enabled have setpoints (R118, R124, R129); every
configuration the node holds has its limits in order (R180). -/
structure SetpointsWithin (s : State) : Prop where
  in_force : ∀ c, s.startup.config = some c → LimitsOrdered c
  stored : ∀ c, s.nonvolatile.config = some c → LimitsOrdered c
  written : ∀ w, s.startup.write = some w → LimitsOrdered w.record
  steered : (working s.control.axisState = true ∨ s.control.axisState = .halted) →
    s.blend.history.isSome = true
  positioned : working s.control.axisState = true → s.blend.live.isSome = true
  captured : s.control.axisState = .waking → s.drive.captured = true →
    s.blend.history.isSome = true ∧ s.blend.live.isSome = true
  enabled : s.drive.enable = true → s.blend.history.isSome = true
  history : ∀ c h, s.startup.config = some c → s.blend.history = some h →
    Within c h.prev ∧ Within c h.prev2
  live : ∀ c x, s.startup.config = some c → s.blend.live = some x → Within c x

/-! ### Drive link -/

/-- Closing the open exchange brings neither count to the mark of its check: a count below its mark, past it, or
standing at it trips nothing (R134, R137, R138). -/
abbrev QuietClose (c : Configuration) (d : DriveLink) : Prop :=
  ((closedCounts c d).1 = missedLimit → d.missed = missedLimit) ∧
    ((closedCounts c d).2 = followingLimit → d.following = followingLimit)

/-- The enable output is off in SETUP and PARKED, in FAULT with cause DRIVE_LOST or OUT_OF_RANGE, and in
WAKING before capture (R132, R135). -/
structure EnableLawful (s : State) : Prop where
  setup : s.control.axisState = .setup → s.drive.enable = false
  parked : s.control.axisState = .parked → s.drive.enable = false
  waking : s.control.axisState = .waking → s.drive.captured = false → s.drive.enable = false
  lost : s.control.axisState = .fault → s.drive.faultCause = some .driveLost → s.drive.enable = false
  misplaced : s.control.axisState = .fault → s.drive.faultCause = some .outOfRange →
    s.drive.enable = false

/-! ### Bus, peers and marks -/

/-- The reply queue holds at most 4 replies and the echo-error count at most 8 (R155, R169). -/
abbrev BusBounded (s : State) : Prop := s.bus.replies.length ≤ replyRoom ∧ s.bus.echoErrors ≤ echoLimit

/-- At most one entry for an address, none for address 0 and none for the node's own; none before loading
ends (R145, R146). -/
structure PeersLawful (s : State) : Prop where
  rising : s.peers.Pairwise fun a b => a.address.toNat < b.address.toNat
  no_zero : ∀ e ∈ s.peers, e.address ≠ 0
  not_own : ∀ e ∈ s.peers, e.address ≠ s.startup.address
  empty_before : s.startup.phase ≠ .running → s.peers = []

/-- No edit is open while a save runs (R158, R164). -/
abbrev EditExcludesSave (s : State) : Prop := s.marks.edit = none ∨ s.marks.save = none

/-- No chain is set in SETUP or before loading ends, and a configuration write runs in SETUP alone
(R7, R21, R180, R181). -/
structure NoChainInSetup (s : State) : Prop where
  no_chain : s.startup.phase ≠ .running ∨ s.control.axisState = .setup →
    s.control.run = none ∧ s.control.arm = none ∧ s.control.stack = []
  write_in_setup : s.startup.write ≠ none → s.control.axisState = .setup

/-- The marks reachable from a mark: itself, and every mark a link of a reachable VALID mark names (R5). -/
inductive Reaches (table : Vector MarkSlot 64) (first : MarkNo) : MarkNo → Prop
  | start : Reaches table first first
  | next (n k : MarkNo) (m : Mark) : Reaches table first n → table[n].record = some m →
      m.next = some k → Reaches table first k
  | loopTo (n k : MarkNo) (m : Mark) : Reaches table first n → table[n].record = some m →
      m.loopTo = some k → Reaches table first k

end Sys2Proof.Machine
end

