-- ==== Sys2Proof/Certificates/Slice0/Obligations.lean ====
section
/-! DEFINITION. The statements for the provers, in the order of the spec's chapters. Each docstring names the rules
it formalises; a clause that rests on a choice of the model names the log entry. -/

open Sys2Proof Sys2Proof.Machine

/-! ### The queue -/

/-- A step takes the command at the front of the queue and runs it on the node with the queue's rest. -/
def Obligations.StepRunsTheFrontCommand : Prop :=
  ∀ (c : Instr) (rest : List Instr) (s : State),
    Machine.step { s with pending := c :: rest } = exec c { s with pending := rest }

/-- Every command, in every state, answers a next state, and touches nothing of the queue (log 1). -/
def Obligations.EveryCommandCompletes : Prop :=
  ∀ (c : Instr) (s : State), ∃ t, exec c s = .next t ∧ t.pending = s.pending

/-- With nothing waiting a step is one millisecond (the model's choice, log 2): nothing happens while the reset
line is asserted, and loading goes on and ends after at most 50 ms (R177, log 12). On a running node every timer and
age counts one, to its ceiling, and where nothing falls due nothing else happens. What reaches its mark is taken by the
meaning of its command, in the order of log 3: the settle timer, the arm record, a stale demand, silent owners, lost
peers, a grab, the lease, the slot write and the configuration write, the STATE interval, and last the update; a dial
value 100 ms old is marked stale on the way (R25, R41, R95, R98, R99, R109, R112, R149, R158, R164, R174, R180; log 24).
An arm record in its last millisecond expires with cue result EXPIRED. -/
def Obligations.IdleStepIsAMillisecond : Prop :=
  ∀ s : State, s.pending = [] →
    (s.startup.phase = .asserted → Machine.step s = .next s) ∧
    (∀ n, s.startup.phase = .loading n → n < 49 →
      Machine.step s = .next { s with startup.phase := .loading (n + 1) }) ∧
    (∀ n, s.startup.phase = .loading n → 49 ≤ n → Machine.step s = exec .loadingEnd s) ∧
    (s.startup.phase = .running → NothingDue s → Machine.step s = .next (oneMsLater s)) ∧
    (s.startup.phase = .running → PeersLawful s →
      let first : List Instr := [.settleTimerExpiry, .armExpiry, .demandStale]
      let peers : List Instr := (List.range 32).map fun k => .peerLost (BitVec.ofNat 5 k)
      let last : List Instr := [.channelRelease .demand, .channelRelease .dial] ++ peers ++
        [.grab, .leaseExpiry, .saveSlotWriteEnd, .configWriteEnd, .stateInterval, .update]
      let t := first.foldl takeWhenDue (oneMsLater s)
      let dial := t.live.dial.map fun r => { r with stale := r.stale || decide (100 ≤ r.age) }
      Machine.step s = .next (last.foldl takeWhenDue { t with live := { t.live with dial } })) ∧
    (∀ a, s.startup.phase = .running → RecordsFit s → s.control.arm = some a → 29999 ≤ a.age →
      ∃ t, Machine.step s = .next t ∧ t.control.arm = none ∧ t.control.cueResult = .expired)

/-! ### Reset, loading and configuration (chapter 11) -/

/-- RESET: every block takes its after-reset value; the nonvolatile store and the stop pin stand as they were
(R21, R73, R95, R111, R131, R145, R155, R158, R164, R171, R177, R179). RESET_RELEASE then samples the straps and starts
loading, and changes nothing else (R178). -/
def Obligations.ResetRestoresEveryBlock : Prop :=
  ∀ s : State,
    (∀ (address : Addr) (setup : Bool), s.startup.phase = .asserted →
      exec (.resetRelease address setup) s =
        .next { s with startup.phase := .loading 0, startup.address := address,
                       startup.setupStrap := setup }) ∧
    ∃ t, exec .reset s = .next t ∧
    t.nonvolatile = s.nonvolatile ∧ t.stopInput = s.stopInput ∧ t.pending = s.pending ∧
    t.startup.phase = .asserted ∧ t.startup.config = none ∧ t.startup.write = none ∧
    (∀ f : ConfigField, t.startup.staged[f] = none) ∧
    t.control.run = none ∧ t.control.arm = none ∧ t.control.stack = [] ∧
    t.control.cueResult = .noResult ∧ t.control.haltCause = none ∧ t.control.holdCause = none ∧
    t.control.settle = none ∧
    t.pace = { ownNeed := 1024, veff := none, dialPace := 1024, target := 0, applied := 0,
               lastNeedSent := none, interval := none, counted := [] } ∧
    t.live.velocity = 0 ∧ t.live.deflection = 0 ∧ t.live.remainder = 0 ∧ t.live.recentre = true ∧
    t.live.grabTimer = none ∧
    t.blend.timer = none ∧ t.blend.live = none ∧ t.blend.history = none ∧ t.blend.trim = 0 ∧
    t.blend.weight = 0 ∧ t.blend.weightTarget = 0 ∧ t.blend.limited = false ∧
    t.drive = { seq := 0, exchange := none, answer := none, lastFeedback := none, missed := 0,
                following := 0, captured := false, enable := false, faultCause := none,
                permanent := false, clashAge := none, linkIntact := false, linkAwaited := false,
                sent := none } ∧
    t.peers = [] ∧ t.marks.edit = none ∧ t.marks.save = none ∧
    t.bus = { haltSlot := none, paceSlot := none, stateSlot := none, replies := [], echoErrors := 0,
              inHand := none, stateTimer := none, line := .silent }

/-- LOADING_END chooses the first state: FAULT with the permanent ADDRESS_CLASH and no frame at address 0, else
SETUP under the setup strap or without a valid configuration, else WAKING; the update timer starts where R112
says, and the first STATE frame is queued. A slot cut short in its write loads EMPTY and unsaved; any other as saved, a
VALID one clamped to the stored limits and unsaved by the clamp alone. The channel table, a_step, the weight step and
Veff are built from the stored configuration, Veff absent where there is none (at address 0 the model's choice, log 37)
(R3, R23, R73, R95, R96, R111, R112, R115, R165, R174, R177, R179). -/
def Obligations.LoadingEndChoosesTheFirstState : Prop :=
  ∀ (n : Nat) (s : State), s.startup.phase = .loading n →
    let fresh (k : ChannelNo) : ChannelRecord :=
      { channel := k, owner := none, value := none, deadman := false, age := 0, stale := true }
    ∃ t, exec .loadingEnd s = .next t ∧
      t.startup.phase = .running ∧ t.startup.address = s.startup.address ∧
      t.startup.config = s.nonvolatile.config ∧ t.nonvolatile = s.nonvolatile ∧
      t.control.run = none ∧ t.control.arm = none ∧ t.control.stack = [] ∧ t.peers = [] ∧
      t.drive.enable = false ∧ t.bus.haltSlot = none ∧
      t.live = { demand := (s.nonvolatile.config.bind (·.demandChannel)).map fresh,
                 dial := (s.nonvolatile.config.bind (·.dialChannel)).map fresh,
                 velocity := 0, deflection := 0, remainder := 0, recentre := true, grabTimer := none } ∧
      (∀ c, s.nonvolatile.config = some c →
        t.blend.aStep = max 1 (c.accMax * periodMs c.period ^ 2 / 1000000) ∧
        t.blend.weightStep = (4096 * periodMs c.period + c.crossfade - 1) / c.crossfade) ∧
      (∀ i : MarkNo, t.marks.table[i] =
        if s.nonvolatile.slots[i].inProgress = true then { record := none, unsaved := true }
        else match s.nonvolatile.slots[i].record, s.nonvolatile.config with
          | none, _ => { record := none, unsaved := false }
          | some m, none => { record := some m, unsaved := false }
          | some m, some c =>
            let x := max c.limitLow (min m.position c.limitHigh)
            { record := some { m with position := x }, unsaved := m.position != x }) ∧
      (if s.startup.address = 0 then
        t.control.axisState = .fault ∧ t.drive.faultCause = some .addressClash ∧
          t.drive.permanent = true ∧ t.bus.stateSlot = none ∧ t.bus.stateTimer = none ∧
          t.blend.timer = (s.nonvolatile.config.map fun _ => 0) ∧
          t.pace.veff = s.nonvolatile.config.map (·.velMax)
      else if s.startup.setupStrap = true ∨ s.nonvolatile.config = none then
        t.control.axisState = .setup ∧ t.drive.faultCause = none ∧ t.blend.timer = none ∧
          t.pace.veff = none ∧ t.bus.stateTimer = some 0 ∧ t.startup.write = none ∧
          (∃ f, t.bus.stateSlot = some f ∧ f.axisState = .setup ∧
            f.axisKind = s.nonvolatile.config.map (·.axisKind)) ∧
          (∀ c, s.nonvolatile.config = some c → t.startup.staged = stagedOf c) ∧
          (s.nonvolatile.config = none → ∀ f : ConfigField, t.startup.staged[f] = none)
      else
        t.control.axisState = .waking ∧ t.drive.faultCause = none ∧ t.blend.timer = some 0 ∧
          t.pace.veff = s.nonvolatile.config.map (·.velMax) ∧
          t.control.settle = some 0 ∧ t.drive.captured = false ∧ t.bus.stateTimer = some 0 ∧
          ∃ f, t.bus.stateSlot = some f ∧ f.axisState = .waking)

/-- CONFIG_SET in SETUP with no write running: the cases of R179, over every field code and every signed 32-bit
value. A value is stored as it came, moved into the field's range, or refused. -/
def Obligations.ConfigSetStagesAField : Prop :=
  ∀ (h : CommandHeader) (f b3 b2 b1 b0 : Byte) (more : List Byte) (s : State),
    Taken h s → s.control.axisState = .setup →
    let v := valueOf b3 b2 b1 b0
    let c := Instr.configSet h (f :: b3 :: b2 :: b1 :: b0 :: more)
    let s' := heardFrom h.sender s
    let clampTo (low high : Int) : Option Int := some (max low (min v high))
    let stored : Option Int :=
      match f.toNat with
      | 0 => if 0 ≤ v ∧ v ≤ 9 then some v else none
      | 1 | 2 => some v
      | 3 | 5 => clampTo 1 50000000
      | 4 => clampTo 1 500000000
      | 6 => clampTo 0 2147483647
      | 7 => clampTo 50 5000
      | 8 => if v = 1 ∨ v = 2 ∨ v = 4 then some v else none
      | 9 | 10 => if (0 ≤ v ∧ v ≤ 63) ∨ v = 255 then some v else none
      | 11 => clampTo 0 255
      | 12 => clampTo 0 256
      | 13 => if v ≤ 0 then some 0 else if v < 256 then some 256
        else if v ≤ 2047 then some v else some 2047
      | 14 => clampTo 1 2147483647
      | 15 => clampTo 500 50000
      | 16 => clampTo 100 20000
      | 17 => clampTo 500 100000
      | _ => none
    if s.startup.write.isSome then exec c s = .next (sendReply h .busy [] s')
    else match stored with
      | none => exec c s = .next (sendReply h .badArg [] s')
      | some x => ∃ g : ConfigField, g.val = f.toNat ∧
        exec c s = .next (sendReply h (if x = v then .ok else .clamped) (f :: valueBytes x)
          { s' with startup.staged := s.startup.staged.set g (some x) })

/-- CONFIG_DONE in SETUP: while a write runs it is BUSY. With none running, where a field fails the check of R180, the
first that does is named; where none fails, the write of a record with the staged values starts, each of the eighteen at
its field. The check's conditions are spelled out, that of the two limits at LIMIT_HIGH (the model's reading, log 20);
every stored AXIS_KIND, PERIOD and channel is one CONFIG_SET can have stored. -/
def Obligations.ConfigDoneChecksTheRecord : Prop :=
  ∀ (h : CommandHeader) (args : List Byte) (s : State), Taken h s → s.control.axisState = .setup →
    let st := s.startup.staged
    let used (f : ConfigField) : Prop :=
      f.val < 15 ∨ (f.val = 15 ∧ st[0] = some 0) ∨ (15 < f.val ∧ (st[0] = some 1 ∨ st[0] = some 2))
    let fails (f : ConfigField) : Prop :=
      used f ∧ (st[f] = none ∨
        (f.val = 2 ∧ ∃ low high, st[1] = some low ∧ st[2] = some high ∧ high ≤ low) ∨
        (f.val = 5 ∧ ∃ vel rate, st[3] = some vel ∧ st[5] = some rate ∧ vel < rate) ∨
        (f.val = 6 ∧ ∃ low high trim, st[1] = some low ∧ st[2] = some high ∧ st[6] = some trim ∧
          high - low < trim))
    let s' := heardFrom h.sender s
    (s.startup.write ≠ none → exec (.configDone h args) s = .next (sendReply h .busy [] s')) ∧
    (s.startup.write = none → ∀ f, fails f → (∀ g, g < f → ¬ fails g) →
      exec (.configDone h args) s = .next (sendReply h .badArg [codeByte f.val] s')) ∧
    (s.startup.write = none → (∀ f, ¬ fails f) → (∀ k, st[0] = some k → 0 ≤ k ∧ k ≤ 9) →
      (∀ p, st[8] = some p → p = 1 ∨ p = 2 ∨ p = 4) →
      (∀ d, st[9] = some d ∨ st[10] = some d → (0 ≤ d ∧ d ≤ 63) ∨ d = 255) →
      ∃ c, exec (.configDone h args) s =
          .next (sendReply h .ok [] { s' with startup.write := some { record := c, elapsed := 0 } }) ∧
        c.limitLow < c.limitHigh ∧
        st[0] = some (axisKindCode c.axisKind : Int) ∧ st[1] = some c.limitLow ∧ st[2] = some c.limitHigh ∧
        st[3].map Int.toNat = some c.velMax ∧ st[4].map Int.toNat = some c.accMax ∧
        st[5].map Int.toNat = some c.liveRate ∧ st[6].map Int.toNat = some c.trimMax ∧
        st[7].map Int.toNat = some c.crossfade ∧ st[8] = some (periodMs c.period : Int) ∧
        st[9] = some (linkCode c.demandChannel : Int) ∧ st[10] = some (linkCode c.dialChannel : Int) ∧
        st[11].map Int.toNat = some c.deadband ∧ st[12].map Int.toNat = some c.expo ∧
        st[13].map Int.toNat = some c.grabLevel ∧ st[14].map Int.toNat = some c.followLimit ∧
        st[15].map Int.toNat = c.baseLength ∧ st[16].map Int.toNat = c.tipSpeed ∧
        st[17].map Int.toNat = c.assumedLength)

/-- CONFIG_WRITE_END: the written record is in force and stored, every VALID mark is clamped with its unsaved marker
set by the clamp, the blocks take their figures, the update timer starts, and the node enters WAKING
(R2, R25, R96, R111, R112, R136, R181). -/
def Obligations.ConfigWriteEndPutsTheRecordInForce : Prop :=
  ∀ (w : ConfigWrite) (s : State), s.startup.phase = .running → s.startup.write = some w →
    let c := w.record
    ∃ t, exec .configWriteEnd s = .next t ∧
      t.startup.config = some c ∧ t.nonvolatile = { s.nonvolatile with config := some c } ∧
      t.startup.write = none ∧ t.control.axisState = .waking ∧ t.control.settle = some 0 ∧
      t.drive.captured = false ∧ t.drive.missed = 0 ∧ t.drive.following = 0 ∧ t.drive.enable = false ∧
      t.blend.timer = some 0 ∧ t.pace.veff = some c.velMax ∧
      t.blend.aStep = max 1 (c.accMax * periodMs c.period ^ 2 / 1000000) ∧
      t.blend.weightStep = (4096 * periodMs c.period + c.crossfade - 1) / c.crossfade ∧
      t.live.velocity = 0 ∧ t.live.deflection = 0 ∧ t.live.remainder = 0 ∧ t.live.recentre = true ∧
      t.live.demand = c.demandChannel.map freshRecord ∧ t.live.dial = c.dialChannel.map freshRecord ∧
      t.peers = s.peers ∧ t.marks.edit = s.marks.edit ∧ t.marks.save = s.marks.save ∧
      ∀ i : MarkNo, t.marks.table[i] =
        match s.marks.table[i].record with
        | none => s.marks.table[i]
        | some m =>
          let x := max c.limitLow (min m.position c.limitHigh)
          { record := some { m with position := x },
            unsaved := s.marks.table[i].unsaved || m.position != x }

/-- PARK in LIVE: at rest and without a pending arm the node parks with its enable off and its PACE slot emptied;
else it is BUSY. WAKE in PARKED starts WAKING with its settle timer and a fresh capture
(R25, R36, R37, R129, R136, R166). Between updates at rest means a last step of 0 (the model's reading, log 19). -/
def Obligations.ParkAndWake : Prop :=
  ∀ (h : CommandHeader) (args : List Byte) (s : State), Taken h s →
    (s.control.axisState = .live →
      if lastStep s.blend = 0 ∧ s.control.arm = none then
        ∃ t, exec (.park h args) s = .next t ∧
          t.control.axisState = .parked ∧ t.drive = { s.drive with enable := false, faultCause := none } ∧
          t.bus.paceSlot = none ∧ t.blend.live = none ∧ t.blend.history = none ∧
          t.live.remainder = 0 ∧ t.marks = s.marks ∧ t.nonvolatile = s.nonvolatile ∧
          t.startup = s.startup ∧ t.peers = (heardFrom h.sender s).peers ∧
          t.bus.replies = s.bus.replies ++
            [{ requester := h.sender, tag := h.tag, result := .ok, data := [] }]
      else exec (.park h args) s = .next (sendReply h .busy [] (heardFrom h.sender s))) ∧
    (s.control.axisState = .parked →
      ∃ t, exec (.wake h args) s = .next t ∧
        t.control.axisState = .waking ∧ t.control.settle = some 0 ∧
        t.drive = { s.drive with captured := false, missed := 0, following := 0, enable := false,
                                 faultCause := none } ∧
        t.marks = s.marks ∧ t.nonvolatile = s.nonvolatile ∧ t.startup = s.startup ∧
        t.peers = (heardFrom h.sender s).peers ∧
        t.bus.replies = s.bus.replies ++
          [{ requester := h.sender, tag := h.tag, result := .ok, data := [] }])

/-! ### Chains, segments and the path (chapters 1 and 3) -/

/-- The walk of an ARM's check finds exactly the reachable marks, each once (R5). -/
def Obligations.WalkFindsTheReachableMarks : Prop :=
  ∀ (table : Vector MarkSlot 64) (first n : MarkNo),
    (n ∈ reachable table first ↔ Reaches table first n) ∧ (reachable table first).Nodup

/-- A mark with repeat R is left by its loop-to link R times and then freed; a foreign owner makes it a plain mark
(R12, R15). -/
def Obligations.LoopIsTakenRepeatTimes : Prop :=
  ∀ (n : MarkNo) (repeats : Nat) (k : Nat),
    let arrive (c : LoopCounter) : LoopCounter := (loopStep n repeats c).1
    let before := arrive^[k] { owner := none, count := 0 }
    (k < repeats → (loopStep n repeats before).2 = true ∧
      arrive before = { owner := some n, count := repeats - 1 - k }) ∧
    (k = repeats → (loopStep n repeats before).2 = false ∧ (arrive before).owner = none) ∧
    (∀ (m : MarkNo) (c : LoopCounter), m ≠ n → c.owner = some m → loopStep n repeats c = (c, false))

/-- An arrival, with the stop input active, goes through the steps in their order: the dwell, the stop, the loop, the
next link, the end of the chain. In HOLDING it goes as in RUNNING, and a segment it builds leaves the node holding; in
RELEASING the stop is passed over and the end freezes the path whatever the end field says. At the end of a
RETURN-TRANSITION the held-aside segment comes back as it was saved: it goes on from its τ, waits again at its stop (in
RELEASING it goes on with the loop), or takes its chain end again (R13, R14, R15, R16, R17, R18, R19, R20). -/
def Obligations.ArrivalGoesThroughTheSteps : Prop :=
  ∀ (r : RunContext) (s : State), s.control.run = some r → s.stopInput = true →
    s.control.axisState = .running ∨ s.control.axisState = .holding ∨ s.control.axisState = .releasing →
    let st := s.control.axisState
    let t := takeArrival s
    let goesOn (q : RunContext) : Prop := t.control = { s.control with run := some q }
    let waits (w : WaitPoint) (q : RunContext) : Prop :=
      t.control = inRun .waiting none
        { s.control with run := some { q with segment := { q.segment with wait := w } } }
    let ends (m : Mark) (q : RunContext) : Prop :=
      let frozen : RunControl := { s.control with run := some { q with frozen := true } }
      if st = .releasing then t.control = frozen
      else if s.control.stack ≠ [] then waits .chainEnd q
      else match m.endAction with
        | .release => t.control = inRun .releasing none frozen ∧ t.blend.weightTarget = 0
        | .latch => t.control.axisState = .live ∧ t.control.run = none ∧ t.blend.weight = 0 ∧
            t.blend.trim = 0 ∧ t.live.recentre = true ∧ t.blend.live = some (presentSetpoint s.blend)
    let fromTheLoop (m : Mark) (q : RunContext) : Prop :=
      let loop := loopStep q.segment.destination m.repeats q.loop
      if m.loopTo.isSome = true ∧ loop.2 = true then
        ∃ k, m.loopTo = some k ∧
          goesOn { q with segment := markSegment m.position k (markAt s k), loop := loop.1 }
      else
        let q' : RunContext := { q with loop := if m.loopTo.isSome then loop.1 else q.loop }
        match m.next with
        | some k => goesOn { q' with segment := markSegment m.position k (markAt s k) }
        | none => ends m q'
    (∀ m, r.segment.kind ≠ .returnTransition → s.marks.table[r.segment.destination].record = some m →
      let q : RunContext := { r with segment := { r.segment with dwellServed := true } }
      if r.segment.dwellServed = false ∧ 0 < m.dwell then
        goesOn { r with segment := dwellSegment r.segment.destination m }
      else if m.stop = true ∧ st ≠ .releasing then waits .stop q
      else fromTheLoop m q) ∧
    (∀ g m, r.segment.kind = .returnTransition → r.heldAside = some g →
      s.marks.table[g.destination].record = some m →
      let q : RunContext := { r with segment := g, heldAside := none }
      (g.tau ≠ g.duration * 1000 → goesOn q) ∧
      (g.tau = g.duration * 1000 → g.wait = .stop →
        if st = .releasing then fromTheLoop m { q with segment := { g with wait := .nowhere } }
        else waits .stop q) ∧
      (g.tau = g.duration * 1000 → g.wait = .chainEnd → ends m q))

/-- The progress is τ·65536/(D·1000) rounded down; it is 65536 at the segment's end and at no earlier τ, and the path is
evaluated on this truncated progress (R59). -/
def Obligations.ProgressIsRoundedDown : Prop :=
  ∀ g : Segment, 0 < g.duration → g.tau ≤ segmentEnd g →
    (progress g : Int) = ⌊(g.tau * 65536 : ℚ) / (g.duration * 1000)⌋ ∧
    (g.tau = 0 → progress g = 0) ∧ (progress g = 65536 ↔ g.tau = g.duration * 1000) ∧
    pathPosition g = g.origin + roundHalfAway (g.delta * easeAt g.ease (progress g / 65536))

/-- The path position is from-position + round(Δ·f) with f the exact ease value at the truncated progress; it is the
from-position at 0, the end position at the end, and never passes either nor turns back (R60 to R63). -/
def Obligations.PathFollowsTheEase : Prop :=
  ∀ (g : Segment) (u v : Nat), u ≤ v → v ≤ 65536 →
    positionAt g u = g.origin + roundHalfAway (g.delta * easeAt g.ease (u / 65536)) ∧
    positionAt g 0 = g.origin ∧ positionAt g 65536 = g.origin + g.delta ∧
    (0 ≤ g.delta → g.origin ≤ positionAt g u ∧ positionAt g u ≤ positionAt g v ∧
      positionAt g v ≤ g.origin + g.delta) ∧
    (g.delta ≤ 0 → g.origin + g.delta ≤ positionAt g v ∧ positionAt g v ≤ positionAt g u ∧
      positionAt g u ≤ g.origin)

/-! ### Pace (chapter 4) -/

/-- need_v is the largest pace at which the path's peak speed does not exceed Veff, and need_a, up to full pace, the
largest n with n²·apk ≤ 1024²·ACC_MAX (R76, R77). -/
def Obligations.NeedTermsAreTheLargestPaces : Prop :=
  ∀ (veff acc distance duration : Nat) (e : Ease), 0 < distance → 0 < duration →
    let kv : ℚ := match e with | .cubic => 3 / 2 | .quintic => 15 / 8 | .cruise => 4 / 3
    let ka : ℚ := match e with | .cubic => 6 | .quintic => 5774 / 1000 | .cruise => 16 / 3
    let vpk : ℚ := kv * distance * 1000 / duration
    let apk : ℚ := ka * distance * 10 ^ 6 / duration ^ 2
    (∀ k : Nat, k ≤ velocityTerm veff distance duration e ↔ vpk * k / 1024 ≤ veff) ∧
    (∀ k : Nat, k ≤ 1024 →
      (k ≤ accelerationTerm acc distance duration e ↔ (k : ℚ) ^ 2 * apk ≤ 1024 ^ 2 * acc))

/-- The effective velocity limit: VEL_MAX on every kind but SWING and LIFT, whatever its other fields hold; on SWING and
LIFT the smaller of VEL_MAX and floor(TIP_SPEED·10^6/L), with L the largest fresh telescope length or ASSUMED_LENGTH,
clamped (R79, R151). -/
def Obligations.ArmTipLimitsSwingAndLift : Prop :=
  ∀ (c : Configuration) (peers : List PeerEntry),
    let counts (e : PeerEntry) (x : Int) : Prop := e ∈ peers ∧ e.axisKind = some .telescope ∧
      e.presence = .present ∧ e.stateAge ≤ 250 ∧ e.position = some x
    let limit (tip : Nat) (x : Int) : Nat :=
      min c.velMax (tip * 1000000 / (max 500 (min x 100000)).toNat)
    let swings : Prop := c.axisKind = .swing ∨ c.axisKind = .lift
    (¬ swings → veffOf c peers = c.velMax) ∧
    (∀ tip assumed : Nat, swings → c.tipSpeed = some tip → c.assumedLength = some assumed →
      ((∀ e x, ¬ counts e x) → veffOf c peers = limit tip assumed) ∧
      ∀ e x, counts e x → (∀ e' x', counts e' x' → x' ≤ x) → veffOf c peers = limit tip x)

/-- The update work of the pace unit: Veff, the own need for the segment R75 names, and the dial pace; the pace target
is 0 but in RUNNING and RELEASING, where it is the least of the own need, the dial pace and every fresh peer need; the
applied pace rises by at most T and falls by at most 2·T toward it. In the states with a run every address with a fresh
need joins the counted set, once, and in no other state does it change. UPDATE does this work, and a node that stays in
its state keeps its figures. After the path stage (log 15), in a state that sends PACE frames, UPDATE queues one with the
own need where that is 16 or more from the last need sent or 50 ms have passed since, and else none
(R75, R78 to R85, R87, R88, R90, R92). -/
def Obligations.PaceHeadsForTheLeastNeed : Prop :=
  ∀ (c : Configuration) (s : State),
    let T := periodMs c.period
    let st := s.control.axisState
    let p := (paceWork c s).pace
    let needOf (delta : Int) (duration : Nat) (e : Ease) : Nat :=
      if delta = 0 then 1024
      else min 1024 (min (velocityTerm (veffOf c s.peers) delta.natAbs duration e)
        (accelerationTerm c.accMax delta.natAbs duration e))
    let fresh (a : Addr) (need : Nat) : Prop := ∃ e ∈ s.peers, e.address = a ∧ e.need = some need ∧
      e.paceAge ≤ 250 ∧ (∃ cue, ownCue s.control = some cue ∧ e.paceCue = some cue) ∧
      (e.flags.armed = true ∨ e.flags.running = true ∨ e.flags.holding = true ∨
        e.flags.waiting = true)
    p.veff = some (veffOf c s.peers) ∧
    (∀ r, st = .running ∨ st = .holding → s.control.run = some r →
      p.ownNeed = needOf r.segment.delta r.segment.duration r.segment.ease) ∧
    (∀ a m h, st = .armed → s.control.arm = some a → s.marks.table[a.first].record = some m →
      s.blend.history = some h → p.ownNeed = needOf (m.position - h.prev) m.duration m.ease) ∧
    (st = .waiting ∨ st = .releasing → p.ownNeed = 1024) ∧
    (sendsPace st = false → p.ownNeed = s.pace.ownNeed) ∧
    (p.dialPace : Int) = (match s.live.dial.bind (·.value) with
      | some v => max 0 v * 1024 / 2047
      | none => 1024) ∧
    (st = .running ∨ st = .releasing →
      IsLeast {x | x = p.ownNeed ∨ x = p.dialPace ∨ ∃ a, fresh a x} p.target) ∧
    (st ≠ .running → st ≠ .releasing → p.target = 0) ∧
    (s.pace.applied < p.target → p.applied = min 1024 (min p.target (s.pace.applied + T))) ∧
    (p.target < s.pace.applied → p.applied = min 1024 (max p.target (s.pace.applied - 2 * T))) ∧
    (s.pace.applied = p.target → p.applied = min 1024 p.target) ∧
    (st = .running ∨ st = .holding ∨ st = .waiting ∨ st = .releasing →
      (∀ a, a ∈ p.counted ↔ a ∈ s.pace.counted ∨ ∃ need, fresh a need) ∧
      (s.pace.counted.Nodup → p.counted.Nodup)) ∧
    (hasRun st = false → p.counted = s.pace.counted) ∧
    (∀ n, s.startup.phase = .running → s.startup.config = some c → s.blend.timer = some n →
      let path := (pathStage c (paceWork c { s with blend := { s.blend with timer := some 0 } })).1
      let q := path.pace
      let st' := path.control.axisState
      ∃ t, exec .update s = .next t ∧ t.pace.veff = p.veff ∧ t.pace.dialPace = p.dialPace ∧
        (t.control.axisState = st → t.pace.target = p.target ∧ t.pace.applied = p.applied ∧
          t.pace.counted = p.counted) ∧
        (sendsPace st' = false → t.bus.paceSlot = path.bus.paceSlot) ∧
        (∀ sent, s.drive.permanent = false → sendsPace st' = true → q.lastNeedSent = some sent →
          if 16 ≤ ((q.ownNeed : Int) - sent).natAbs ∨ ∃ k, q.interval = some k ∧ 50 ≤ k then
            (∃ f, t.bus.paceSlot = some f ∧ f.need = q.ownNeed ∧
              (∀ cue, ownCue path.control = some cue → f.cue = cue) ∧
              f.armed = (st' == .armed) ∧ f.running = (st' == .running) ∧
              f.holding = (st' == .holding) ∧ f.waiting = (st' == .waiting) ∧
              f.limited = s.blend.limited ∧
              (∀ a, st' = .armed → path.control.arm = some a → f.destination = a.first) ∧
              (∀ r, st' ≠ .armed → path.control.run = some r → f.destination = r.segment.destination)) ∧
            (t.control.axisState = st' →
              t.pace.lastNeedSent = some q.ownNeed ∧ t.pace.interval = some 0)
          else t.bus.paceSlot = path.bus.paceSlot ∧
            (t.control.axisState = st' → t.pace.lastNeedSent = some sent ∧ t.pace.interval = q.interval)))

/-! ### The update (chapters 3, 5 and 6) -/

/-- Every update completes; it touches no store, no strap, no peer entry, no received demand and no reply, and a node
whose timer is stopped or that has no configuration does nothing (R112). -/
def Obligations.UpdateTouchesNoStore : Prop :=
  ∀ s : State, ∃ t, exec .update s = .next t ∧
    t.startup = s.startup ∧ t.nonvolatile = s.nonvolatile ∧ t.stopInput = s.stopInput ∧
    t.marks = s.marks ∧ t.peers = s.peers ∧ t.pending = s.pending ∧ t.live.demand = s.live.demand ∧
    t.live.dial = s.live.dial ∧ t.live.deflection = s.live.deflection ∧
    t.bus.replies = s.bus.replies ∧ t.bus.echoErrors = s.bus.echoErrors ∧ t.bus.line = s.bus.line ∧
    (s.startup.config = none ∨ s.blend.timer = none → t = s)

/-- In RUNNING, HOLDING and a RELEASING that is not frozen an update adds the whole µs of applied pace × T × 1000 plus the
remainder, over 1024, to τ, and keeps the rest as the new remainder; τ goes no further than the segment's end, and an
update that brings it there takes the arrival at once. The path position it hands over is that of the segment at the new
τ. In WAITING and in a frozen RELEASING τ and remainder stand, and the end position is handed over; without a run there
is none. The clauses on the end of the update hold where the exchange trips no drive check and the update does not end a
release (R19, R56, R57, R58, R63, R69, R70, R71, R72). -/
def Obligations.UpdateAdvancesThePathClock : Prop :=
  ∀ (c : Configuration) (n : Nat) (s : State), s.startup.phase = .running →
    s.startup.config = some c → s.blend.timer = some n →
    let work := paceWork c { s with blend := { s.blend with timer := some 0 } }
    let st := s.control.axisState
    let path := pathStage c work
    let ending (st : AxisState) : Prop := st = .releasing ∧ s.blend.weight ≤ s.blend.weightStep
    (∀ r, s.control.run = some r → st = .running ∨ st = .holding ∨ (st = .releasing ∧ r.frozen = false) →
      let sum := work.pace.applied * periodMs c.period * 1000 + r.remainder
      let tau := min (r.segment.duration * 1000) (r.segment.tau + sum / 1024)
      let q : RunContext := { r with segment := { r.segment with tau }, remainder := sum % 1024 }
      let moved : State := { work with control := { s.control with run := some q } }
      let arrived := takeArrival moved
      path.2 = some (pathPosition q.segment) ∧
      (tau ≠ r.segment.duration * 1000 → path.1 = moved) ∧
      (tau = r.segment.duration * 1000 → path.1 = arrived) ∧
      (QuietClose c s.drive → ∃ t, exec .update s = .next t ∧
        (tau ≠ r.segment.duration * 1000 → ¬ ending st →
          t.control = moved.control ∧ t.pace.applied = work.pace.applied ∧
            t.pace.ownNeed = work.pace.ownNeed) ∧
        (tau = r.segment.duration * 1000 → ¬ ending arrived.control.axisState →
          t.control = arrived.control))) ∧
    (∀ r, s.control.run = some r → st = .waiting ∨ (st = .releasing ∧ r.frozen = true) →
      path = (work, some (r.segment.origin + r.segment.delta)) ∧
      (QuietClose c s.drive → ∃ t, exec .update s = .next t ∧ (¬ ending st → t.control = s.control))) ∧
    (hasRun st = false → path = (work, none))

/-- The live increment: the sum of v_live·T and the remainder over 1000, toward zero, with what is left over of the
sum's sign kept; it goes to the live position or the trim by state and authority, clamped, and nowhere in the other
states; the mark handed to the limited flag is set where the clamp changed the sum (R105, R117, R118, R125). -/
def Obligations.LiveIncrementGoesWhereItShould : Prop :=
  ∀ (c : Configuration) (s : State),
    let sum := s.live.velocity * periodMs c.period + s.live.remainder
    let st := s.control.axisState
    let mixing : Prop := st = .running ∨ st = .holding ∨ st = .waiting
    ∃ inc rem : Int, sum = 1000 * inc + rem ∧ rem.natAbs ≤ 999 ∧ 0 ≤ rem * sum ∧
      (st = .live ∨ st = .armed ∨ st = .releasing ∨
          (mixing ∧ ∃ r, s.control.run = some r ∧ r.authority = .share) →
        ∀ x, s.blend.live = some x →
          let new := max c.limitLow (min (x + inc) c.limitHigh)
          (liveStage c s).1 = { s with live.remainder := rem, blend.live := some new } ∧
            ((liveStage c s).2 = true ↔ new ≠ x + inc)) ∧
      (mixing → (∃ r, s.control.run = some r ∧ r.authority = .follow) →
        let new := max (-(c.trimMax : Int)) (min (s.blend.trim + inc) c.trimMax)
        (liveStage c s).1 = { s with live.remainder := rem, blend.trim := new } ∧
          ((liveStage c s).2 = true ↔ new ≠ s.blend.trim + inc)) ∧
      (st = .setup ∨ st = .waking ∨ st = .halted ∨ st = .fault ∨ st = .parked →
        liveStage c s = (s, false))

/-- The mix is x_live + round((p + trim − x_live)·w/4096): the live position at w = 0, path plus trim at 4096, and
between the two at every weight. An update in a state that mixes, as the path stage leaves it, steps the weight, forms
the mix of the live stage's figures, and takes it through the position clamp, the velocity and approach caps, the
acceleration clamp and the final clamp; the limited flag tells of every change. The trim unwinds by what the position
clamp cut, but keeps its value in RELEASING (the model's reading of the chapters, log 33); in LIVE and ARMED
the live position follows the setpoint (R111, R112, R113, R115, R119, R120, R121, R122, R123, R124, R125, R126). -/
def Obligations.UpdateMixesAndLimits : Prop :=
  (∀ (live path trim : Int) (w : Nat), w ≤ 4096 →
    let m := mixOf live path trim w
    m = live + roundHalfAway ((path + trim - live : Int) * w / 4096) ∧
    (w = 0 → m = live) ∧ (w = 4096 → m = path + trim) ∧
    min live (path + trim) ≤ m ∧ m ≤ max live (path + trim)) ∧
  ∀ (c : Configuration) (h : History) (x : Int) (n : Nat) (s : State), s.startup.phase = .running →
    s.startup.config = some c → s.blend.timer = some n → s.blend.history = some h →
    let path := pathStage c (paceWork c { s with blend := { s.blend with timer := some 0 } })
    let moved := liveStage c (paceCheck path.1)
    let st := moved.1.control.axisState
    let b := moved.1.blend
    working st = true → b.live = some x →
    let w : Nat := if hasRun st = false then 0
      else if b.weight < b.weightTarget then min b.weightTarget (b.weight + b.weightStep)
      else max b.weightTarget (b.weight - b.weightStep)
    let m := mixOf x (path.2.getD x) b.trim w
    let inside := max c.limitLow (min m c.limitHigh)
    let wanted := inside - h.prev
    let distance : Int := if 0 < wanted then c.limitHigh - h.prev else h.prev - c.limitLow
    let cap : Nat := min (max 1 (veffOf c s.peers * periodMs c.period / 1000))
      (Nat.sqrt (2 * b.aStep * distance.toNat))
    let capped : Int := wanted.sign * min wanted.natAbs cap
    let last := h.prev - h.prev2
    let step := last + max (-(b.aStep : Int)) (min (capped - last) b.aStep)
    let setpoint := max c.limitLow (min (h.prev + step) c.limitHigh)
    ∃ t, exec .update s = .next t ∧ t.blend.history = some ⟨setpoint, h.prev⟩ ∧
      (t.blend.limited = true ↔ moved.2 = true ∨ inside ≠ m ∨ capped ≠ wanted ∨ step ≠ capped ∨
        setpoint ≠ h.prev + step) ∧
      t.blend.live = some (if hasRun st = true then x else setpoint) ∧
      (QuietClose c s.drive → (st = .releasing → w ≠ 0) →
        t.control = moved.1.control ∧ t.blend.weight = w ∧
        t.blend.trim = if st = .releasing then b.trim
          else b.trim.sign * (b.trim.natAbs - (m - inside).natAbs : Nat))

/-- The setpoint laws on every update: from a history within the limits, with a last step within the velocity cap of
VEL_MAX, the new setpoint is within the limits, its step within that cap, and a setpoint record carries exactly it
with its exact feed-forward (R113, R122, R124, R127, R130, R132). -/
def Obligations.UpdateKeepsTheSetpointLaws : Prop :=
  ∀ (c : Configuration) (h : History) (n : Nat) (s : State), s.startup.phase = .running →
    s.startup.config = some c → s.blend.timer = some n → s.blend.history = some h →
    LimitsOrdered c → Within c h.prev → Within c h.prev2 →
    let cap := max 1 (c.velMax * periodMs c.period / 1000)
    (h.prev - h.prev2).natAbs ≤ cap →
    ∃ t h', exec .update s = .next t ∧ t.blend.history = some h' ∧
      Within c h'.prev ∧ Within c h'.prev2 ∧ (h'.prev - h'.prev2).natAbs ≤ cap ∧
      (h'.prev2 = h.prev ∨ h' = h) ∧
      ∀ q x ff, t.drive.sent = some (.setpoint q x ff) →
        q = s.drive.seq ∧ x = h'.prev ∧ ff * periodMs c.period = (x - h.prev) * 1000

/-- In HALTED and FAULT the stopping profile sheds a_step of the last step, within the approach cap and the limits, never
grows it and never turns it, whatever the drive checks find. A node in FAULT keeps its run control. Where the exchange
trips no drive check, the update of a halted node whose step is 0 takes it to LIVE when the stop input is active, with the
live position at the setpoint and the interlock set, and any other keeps its run control
(R33, R113, R122, R125, R127, R128). -/
def Obligations.HaltedNodeBrakesToRest : Prop :=
  ∀ (c : Configuration) (h : History) (n : Nat) (s : State), s.startup.phase = .running →
    s.startup.config = some c → s.blend.timer = some n → s.blend.history = some h →
    s.control.axisState = .halted ∨ s.control.axisState = .fault →
    let last := h.prev - h.prev2
    let shed : Int := last.sign * (last.natAbs - s.blend.aStep : Nat)
    let distance : Int := if 0 < shed then c.limitHigh - h.prev else h.prev - c.limitLow
    let capped : Int := shed.sign * min shed.natAbs (Nat.sqrt (2 * s.blend.aStep * distance.toNat))
    let step : Int := if c.limitLow ≤ h.prev + capped ∧ h.prev + capped ≤ c.limitHigh then capped else 0
    step.natAbs ≤ last.natAbs - s.blend.aStep ∧ 0 ≤ step * last ∧
    ∃ t, exec .update s = .next t ∧ t.blend.history = some ⟨h.prev + step, h.prev⟩ ∧
      (t.blend.limited = true ↔ capped ≠ shed ∨ step ≠ capped) ∧
      (s.control.axisState = .fault → t.control = s.control) ∧
      (s.control.axisState = .halted → QuietClose c s.drive →
        if step = 0 ∧ s.stopInput = true then
          t.control.axisState = .live ∧ t.control.haltCause = none ∧ t.blend.live = some h.prev ∧
            t.live.recentre = true
        else t.control = s.control)

/-- The exchange of an update: the open exchange is closed on the missed-feedback and following-error counts; the eighth
miss in a row enters FAULT with DRIVE_LOST and the enable off, the tenth following error FAULT with FOLLOWING and the
enable as it was, where the checks apply, and in FAULT a lost drive takes the place of a lesser cause. One record then
takes the sequence number: a setpoint record with the update's setpoint and its exact feed-forward where the enable
output is on, else a request (R130, R132, R134, R135, R137, R138, R140, R141). -/
def Obligations.UpdateClosesAndOpensAnExchange : Prop :=
  ∀ (c : Configuration) (n : Nat) (s : State), s.startup.phase = .running →
    s.startup.config = some c → s.blend.timer = some n →
    let d := s.drive
    let st := s.control.axisState
    let missed : Nat := match d.exchange, d.answer with
      | none, _ => d.missed
      | some _, none => min 255 (d.missed + 1)
      | some _, some a => if a.ready then 0 else min 255 (d.missed + 1)
    let following : Nat := match d.exchange, d.answer with
      | some e, some a =>
        if a.ready then
          match e.setpoint with
          | some x => if c.followLimit < (x - a.position).natAbs then min 255 (d.following + 1) else 0
          | none => 0
        else d.following
      | _, _ => d.following
    let checked : Prop := st ≠ .setup ∧ st ≠ .parked ∧ st ≠ .fault ∧ (st = .waking → d.captured = true)
    let lost : Prop := missed = 8 ∧ d.missed ≠ 8
    let lagging : Prop := following = 10 ∧ d.following ≠ 10
    ∃ t, exec .update s = .next t ∧ t.drive.seq = d.seq + 1 ∧ t.drive.answer = none ∧
      t.drive.lastFeedback = d.lastFeedback ∧ t.drive.missed = missed ∧ t.drive.following = following ∧
      (∃ e, t.drive.exchange = some e ∧ e.seq = d.seq) ∧
      (checked → lost → t.control.axisState = .fault ∧ t.drive.faultCause = some .driveLost ∧
        t.drive.enable = false ∧ (d.permanent = false → t.bus.haltSlot = some .driveLost)) ∧
      (checked → lagging → t.control.axisState = .fault ∧ t.drive.faultCause = some .following ∧
        t.drive.enable = d.enable ∧ (d.permanent = false → t.bus.haltSlot = some .following)) ∧
      (st = .fault → lost → d.faultCause = some .following ∨ d.faultCause = some .link ∨
          (d.faultCause = some .addressClash ∧ d.permanent = false) →
        t.drive.faultCause = some .driveLost ∧ t.drive.enable = false) ∧
      (t.drive.enable = false → t.drive.exchange = some ⟨d.seq, none⟩ ∧
        t.drive.sent = some (.request d.seq)) ∧
      (d.enable = false → t.drive.enable = false) ∧
      (d.enable = true → ¬ lost → t.drive.enable = true) ∧
      (∀ h, t.drive.enable = true → s.blend.history = some h → st ≠ .setup → st ≠ .parked →
        ∃ h' ff, t.blend.history = some h' ∧ t.drive.exchange = some ⟨d.seq, some h'.prev⟩ ∧
          t.drive.sent = some (.setpoint d.seq h'.prev ff) ∧
          ff * periodMs c.period = (h'.prev - h'.prev2) * 1000)

/-- In RELEASING, where the exchange trips no drive check, the weight falls by its step and the trim keeps its value; the
update on which the weight reaches 0 takes the node to LIVE: the run is gone, the trim is 0, the pending arm is kept and
the interlock is not set (R31, R115, R117, R128; that the anti-windup leaves the trim is the model's reading, log 33). -/
def Obligations.ReleaseEndsInLive : Prop :=
  ∀ (c : Configuration) (h : History) (r : RunContext) (n : Nat) (s : State),
    s.startup.phase = .running → s.startup.config = some c → s.blend.timer = some n →
    s.blend.history = some h → s.control.axisState = .releasing → s.control.run = some r →
    s.stopInput = true → QuietClose c s.drive → s.blend.weightTarget = 0 →
    ∃ t, exec .update s = .next t ∧
      if s.blend.weight ≤ s.blend.weightStep then
        t.control.axisState = .live ∧ t.control.run = none ∧ t.control.arm = s.control.arm ∧
          t.blend.weight = 0 ∧ t.blend.trim = 0 ∧ t.live.recentre = s.live.recentre ∧
          t.pace.applied = 0
      else
        t.control.axisState = .releasing ∧ t.blend.weight = s.blend.weight - s.blend.weightStep ∧
          t.blend.trim = s.blend.trim

/-! ### Schedules (chapters 4 and 10) -/

/-- PACE_INTERVAL while the timer runs: in the five states that send PACE frames one is filled and queued, with its flags,
cue, destination and the need of the segment R75 names; in any other state nothing happens (R75, R78, R88, R90). The
model's choices: the command queues the frame at once, whatever its timer reads (log 13), with the need worked out at
this moment (log 34), which becomes the own need (log 15). -/
def Obligations.PaceIntervalQueuesAPaceFrame : Prop :=
  ∀ (c : Configuration) (n : Nat) (s : State), s.startup.phase = .running → s.startup.config = some c →
    s.pace.interval = some n → s.drive.permanent = false →
    let st := s.control.axisState
    let needOf (delta : Int) (duration : Nat) (e : Ease) : Nat :=
      if delta = 0 then 1024
      else min 1024 (min (velocityTerm (veffOf c s.peers) delta.natAbs duration e)
        (accelerationTerm c.accMax delta.natAbs duration e))
    if st = .armed ∨ st = .running ∨ st = .holding ∨ st = .waiting ∨ st = .releasing then
      ∃ f : PaceFrame,
        f.armed = (st == .armed) ∧ f.running = (st == .running) ∧ f.holding = (st == .holding) ∧
        f.waiting = (st == .waiting) ∧ f.limited = s.blend.limited ∧
        (∀ a m h, st = .armed → s.control.arm = some a → s.marks.table[a.first].record = some m →
          s.blend.history = some h → f.cue = a.cue ∧ f.destination = a.first ∧
            f.need = needOf (m.position - h.prev) m.duration m.ease) ∧
        (∀ r, st ≠ .armed → s.control.run = some r → f.cue = r.cue ∧
          f.destination = r.segment.destination ∧
          f.need = if st = .running ∨ st = .holding
            then needOf r.segment.delta r.segment.duration r.segment.ease else 1024) ∧
        exec .paceInterval s = .next
          { s with pace := { s.pace with ownNeed := f.need, lastNeedSent := some f.need, interval := some 0 },
                   bus := { s.bus with paceSlot := some f,
                                       inHand := noteReplaced .pace s.bus.inHand } }
    else exec .paceInterval s = .next s

/-- STATE_INTERVAL, and a POLL with no target, target 0 or the node's own address, fill a STATE frame that shows the node,
hand it to its slot and restart the interval; a POLL of another station queues nothing (R54, R174, R175). On a TELESCOPE
node the quotient of the position is rounded, and BASE_LENGTH added to it (the model's choice, log 35). -/
def Obligations.StateFrameShowsTheNode : Prop :=
  ∀ s : State, s.startup.phase = .running → s.drive.permanent = false →
    let filled (s t : State) : Prop := ∃ f, Shows s f ∧
      t = { s with bus := { s.bus with stateSlot := some f, inHand := noteReplaced .state s.bus.inHand,
                                       stateTimer := some 0 } }
    (∀ n, s.bus.stateTimer = some n → ∃ t, exec .stateInterval s = .next t ∧ filled s t) ∧
    (∀ (sender : Addr) (target : Option Addr), Accepts sender s →
      if target = none ∨ target = some 0 ∨ target = some s.startup.address then
        ∃ t, exec (.poll sender target) s = .next t ∧ filled (heardFrom sender s) t
      else exec (.poll sender target) s = .next (heardFrom sender s))

/-! ### The drive link (chapter 7) -/

/-- DRIVE_LOST and FOLLOWING enter FAULT from every state the checks look at; in SETUP, PARKED and WAKING before capture
they report nothing; in FAULT a lost drive alone changes the cause, of FOLLOWING, LINK or a passing ADDRESS_CLASH. As
events they bring their count to its limit (the model's choice, log 14) (R34, R136, R137, R138, R140, R141). -/
def Obligations.DriveChecksFault : Prop :=
  ∀ s : State, s.startup.phase = .running → s.drive.permanent = false →
    let lost : State := { s with drive := { s.drive with missed := max 8 s.drive.missed } }
    let lag : State := { s with drive := { s.drive with following := max 10 s.drive.following } }
    let st := s.control.axisState
    if st = .setup ∨ st = .parked ∨ (st = .waking ∧ s.drive.captured = false) then
      exec .driveLost s = .next lost ∧ exec .following s = .next lag
    else if st = .fault then
      exec .following s = .next lag ∧
      exec .driveLost s = .next
        (if s.drive.faultCause = some .following ∨ s.drive.faultCause = some .link ∨
            s.drive.faultCause = some .addressClash then
          { lost with drive := { lost.drive with faultCause := some .driveLost, enable := false } }
        else lost)
    else (∃ t, exec .driveLost s = .next t ∧ FaultedFrom .driveLost lost t) ∧
      ∃ t, exec .following s = .next t ∧ FaultedFrom .following lag t

/-- A feedback record answers the open exchange of its number once, and no other; the first ready one of WAKING is
captured: inside the limits the enable goes on and setpoints and live position start there, outside the node faults with
OUT_OF_RANGE (R129, R133, R136). -/
def Obligations.FeedbackAnswersAndIsCaptured : Prop :=
  ∀ (seq : Byte) (ready : Bool) (position : BitVec 32) (c : Configuration) (s : State),
    s.startup.phase = .running → s.startup.config = some c → s.drive.permanent = false →
    let x := position.toInt
    let outcome := exec (.feedbackRecord seq ready position) s
    let last : Option Int := if ready = true then some x else s.drive.lastFeedback
    let answered : DriveLink := { s.drive with answer := some ⟨seq, ready, x⟩, lastFeedback := last }
    if ∃ e, s.drive.exchange = some e ∧ e.seq = seq ∧ s.drive.answer = none then
      if ready = true ∧ s.control.axisState = .waking ∧ s.drive.captured = false then
        if Within c x then
          outcome = .next
            { s with drive := { answered with captured := true, enable := true },
                     blend := { s.blend with history := some ⟨x, x⟩, live := some x, trim := 0,
                                             weight := 0 } }
        else ∃ t, outcome = .next t ∧
          FaultedFrom .outOfRange { s with drive := { answered with captured := true } } t
      else outcome = .next { s with drive := answered }
    else outcome = .next s

/-- The stop input going inactive halts a working node with cause STOP_INPUT; going active it takes a halted node at rest
to LIVE at its setpoint; else the level alone changes. The settle timer's expiry ends WAKING: FAULT with DRIVE_LOST before
capture, else LIVE with the interlock set when the stop input is active, else HALTED with cause STOP_INPUT
(R25, R32, R33, R136, R139). Between updates at rest means a last step of 0 (the model's reading, log 19). -/
def Obligations.StopInputAndSettleTimer : Prop :=
  ∀ (active : Bool) (s : State), s.startup.phase = .running → s.drive.permanent = false →
    let s' : State := { s with stopInput := active }
    (if active = false ∧ s.stopInput = true ∧ working s.control.axisState = true then
      ∃ t, exec (.stopInputChange active) s = .next t ∧ HaltedFrom .stopInput s' t
    else if active = true ∧ s.stopInput = false ∧ s.control.axisState = .halted ∧ lastStep s.blend = 0 then
      ∃ t, exec (.stopInputChange active) s = .next t ∧
        LiveAt (some (presentSetpoint s.blend)) s' t
    else exec (.stopInputChange active) s = .next s') ∧
    (if s.control.axisState = .waking ∧ s.control.settle ≠ none then
      ∃ t, exec .settleTimerExpiry s = .next t ∧
        if s.drive.captured = false then FaultedFrom .driveLost s t
        else if s.stopInput = true then LiveAt s.blend.live s t
        else HaltedFrom .stopInput s t
    else exec .settleTimerExpiry s = .next s)

/-- CLEAR in FAULT: with the cause gone, both counts 0, the last feedback within the limits and the axis at rest the node
goes to LIVE at that feedback (stop input active) or to HALTED, with its enable on and OK; else CAUSE_PRESENT and nothing
changes (R35, R129, R142, R143, R166). Into HALTED the re-centre flag stays as it was, and at
rest means a last step of 0 (the model's readings, log 32 and log 19). -/
def Obligations.ClearLeavesFault : Prop :=
  ∀ (h : CommandHeader) (args : List Byte) (c : Configuration) (s : State), Taken h s →
    s.control.axisState = .fault → s.startup.config = some c →
    let d := s.drive
    let gone : Prop :=
      (d.faultCause = some .driveLost ∧ d.missed = 0) ∨
      (d.faultCause = some .outOfRange ∧ ∃ x, d.lastFeedback = some x ∧ Within c x) ∨
      (d.faultCause = some .following ∧ d.following = 0) ∨
      (d.faultCause = some .link ∧ d.linkIntact = true) ∨
      (d.faultCause = some .addressClash ∧ ∃ n, d.clashAge = some n ∧ 1000 ≤ n)
    let s' := heardFrom h.sender s
    let accepted (x : Int) : Prop :=
      gone ∧ d.missed = 0 ∧ d.following = 0 ∧ d.lastFeedback = some x ∧ Within c x ∧ lastStep s.blend = 0
    ((∀ x, ¬ accepted x) → exec (.clear h args) s = .next (sendReply h .causePresent [] s')) ∧
    (∀ x, accepted x →
      let history : Option History := if d.enable = true then s.blend.history else some ⟨x, x⟩
      let on : State := { s' with drive := { d with enable := true },
                                  blend := { s.blend with history, live := some x } }
      ∃ t, exec (.clear h args) s = .next (sendReply h .ok [] t) ∧
        if s.stopInput = true then LiveAt (some x) on t else HaltedFrom .stopInput on t)

/-! ### Timers (chapters 2, 5, 8 and 9) -/

/-- An arm record that expires is gone with cue result EXPIRED, and an armed node goes to LIVE; a lease that runs out
closes the edit as a discard; a stale demand asks for nothing, its value kept, and breaks a grab; a silent owner of either
channel is released. Nothing else changes, but that ages are brought up to the mark of their event (the model's choice,
log 14) (R41, R98, R99, R104, R108, R158). -/
def Obligations.RecordsExpire : Prop :=
  ∀ (r : ChannelRecord) (s : State), s.startup.phase = .running → StopRespected s →
    s.drive.permanent = false →
    exec .leaseExpiry s = .next { s with marks := { s.marks with edit := none } } ∧
    (s.control.arm = none → exec .armExpiry s = .next s) ∧
    (∀ a, s.control.arm = some a →
      let s' : State := { s with control := { s.control with arm := none, cueResult := .expired } }
      if s.control.axisState = .armed then ∃ t, exec .armExpiry s = .next t ∧ LiveFrom s' t
      else exec .armExpiry s = .next s') ∧
    (s.live.demand = some r →
      let stale : ChannelRecord := { r with stale := true, age := max 100 r.age }
      exec .demandStale s = .next
        { s with live := { s.live with demand := some stale, velocity := 0, deflection := 0,
                                       grabTimer := none } }) ∧
    (s.live.demand = some r → r.owner ≠ none →
      let free : ChannelRecord := { r with owner := none, age := max 500 r.age }
      exec (.channelRelease .demand) s = .next { s with live := { s.live with demand := some free } }) ∧
    (s.live.dial = some r → r.owner ≠ none →
      let free : ChannelRecord := { r with owner := none, age := max 500 r.age }
      exec (.channelRelease .dial) s = .next { s with live := { s.live with dial := some free } })

/-- A grab held for 200 ms stops its timer, and in RUNNING and HOLDING takes the run to RELEASING: the stack is cleared,
the weight target is 0, the path is not frozen. A PRESENT entry that is lost, in any axis state, keeps what it recorded; a
counted one leaves the counted set, and in RUNNING holds the run with cause PEER_LOST
(R51, R52, R89, R93, R106, R109, R114, R149). The entry's ages are brought up to the mark of the event, 1000 ms,
where they are below it (the model's choice, log 14). -/
def Obligations.GrabReleasesAndLossHolds : Prop :=
  ∀ (n : Nat) (a : Addr) (e : PeerEntry) (s : State), s.startup.phase = .running →
    StopRespected s → s.drive.permanent = false →
    let st := s.control.axisState
    (s.live.grabTimer = some n → ∃ t, exec .grab s = .next t ∧
      if st = .running ∨ st = .holding then
        ChangedAmongRuns { s with live := { s.live with remainder := 0 },
                                  blend := { s.blend with weightTarget := 0 } } t ∧
        t.control = inRun .releasing none { s.control with stack := [] } ∧ t.live.grabTimer = none ∧
        Announced t
      else t = { s with live := { s.live with grabTimer := none } }) ∧
    (PeersLawful s → peerAt s.peers a = some e → e.presence = .present →
      ∃ t, exec (.peerLost a) s = .next t ∧
        peerAt t.peers a = some { e with
          presence := .lost, heardAge := max 1000 e.heardAge, paceAge := max 1000 e.paceAge,
          stateAge := max 1000 e.stateAge } ∧
        (∀ b, b ≠ a → peerAt t.peers b = peerAt s.peers b) ∧
        let counted := s.pace.counted.filter (· ≠ a)
        let s' : State := { s with peers := t.peers, pace := { s.pace with counted } }
        if a ∈ s.pace.counted ∧ st = .running then
          ChangedAmongRuns s' t ∧ t.control = inRun .holding (some .peerLost) s.control ∧ Announced t
        else t = if a ∈ s.pace.counted then s' else { s with peers := t.peers })

/-! ### Frames (chapters 2, 5, 8 and 10) -/

/-- A HALT halts a working node with the frame's cause, OPERATOR for a code that is no halt cause, and in any other state
is only heard. ABORT halts a run it matches with cause ABORT; else it drops a matching arm record, from ARMED with a
change to LIVE; else it is only heard (R32, R38, R48, R147, R173). -/
def Obligations.HaltAndAbort : Prop :=
  ∀ (sender : Addr) (code : Byte) (cue : CueNo) (s : State), Accepts sender s →
    s.drive.permanent = false → StopRespected s →
    let s' := heardFrom sender s
    let st := s.control.axisState
    let cause : Cause := match code.toNat with
      | 1 => .stopInput
      | 2 => .driveLost
      | 3 => .following
      | 4 => .link
      | 5 => .addressClash
      | 6 => .outOfRange
      | 8 => .abort
      | _ => .operator
    let disarmed : State := { s' with control := { s.control with arm := none } }
    (if working st = true then
      ∃ t, exec (.haltFrame sender code) s = .next t ∧ HaltedFrom cause s' t
    else exec (.haltFrame sender code) s = .next s') ∧
    ∃ t, exec (.abort sender cue) s = .next t ∧
      if hasRun st = true ∧ ∃ r, s.control.run = some r ∧ Matches cue r.cue then HaltedFrom .abort s' t
      else if working st = true ∧ ∃ a, s.control.arm = some a ∧ Matches cue a.cue then
        if st = .armed then LiveFrom disarmed t else t = disarmed
      else t = s'

/-- ARM: number 0 is ignored; in HALTED and FAULT it is BAD_STATE; an EMPTY first mark is NO_MARK and an EMPTY reachable
mark BROKEN_CHAIN; else a fresh arm record with the chain set and the first mark's authority takes the place of the last,
and a node in LIVE or ARMED is ARMED, its PACE and STATE frames queued (R6, R7, R38, R39, R40, R89). -/
def Obligations.ArmChecksTheChain : Prop :=
  ∀ (sender : Addr) (cue : CueNo) (first : MarkNo) (s : State), Accepts sender s → StopRespected s →
    s.drive.permanent = false →
    let s' := heardFrom sender s
    let said (x : CueResult) : State := { s' with control := { s.control with cueResult := x } }
    let st := s.control.axisState
    ∃ t, exec (.arm sender cue first) s = .next t ∧
      if cue = 0 ∨ st = .setup ∨ st = .waking ∨ st = .parked then t = s'
      else if st = .halted ∨ st = .fault then t = said .badState
      else match s.marks.table[first].record with
      | none => t = said .noMark
      | some m =>
        let broken : Prop := ∃ n, Reaches s.marks.table first n ∧ s.marks.table[n].record = none
        (broken → t = said .brokenChain) ∧
        (¬ broken → ∃ a, t.control.arm = some a ∧ a.cue = cue ∧ a.first = first ∧ a.age = 0 ∧
          a.authority = m.authority ∧ a.share = m.share ∧
          (∀ n, n ∈ a.chainSet ↔ Reaches s.marks.table first n) ∧
          let armed : State := { s' with control := { s.control with arm := some a, cueResult := .armed } }
          if st = .live ∨ st = .armed then
            ChangedAmongRuns { s' with blend := { s.blend with weight := 0, weightTarget := 0, trim := 0 } } t ∧
            t.control = { axisState := .armed, run := none, arm := some a, stack := [], cueResult := .armed,
                          haltCause := none, holdCause := none, settle := none } ∧
            (∃ p, t.bus.paceSlot = some p ∧ p.armed = true ∧ p.cue = cue ∧ p.destination = first) ∧
            (st = .live → ∃ f, t.bus.stateSlot = some f ∧ f.axisState = .armed ∧ f.cue = cue)
          else t = armed)

/-- A GO for the arm record's cue starts its run: a context with the first mark's segment from the setpoint, applied pace
and trim 0, the live position at the setpoint, the weight target of the authority, the arm record gone. The stack of a run
it replaces is kept; with nest, and fewer than 3 contexts stacked, the run joins it, its held-aside segment as the segment
(R42, R43, R44, R45, R50, R65, R68, R92, R114, R116). The counted set is kept where the own cue is the same number (the
model's reading of R92, log 16). -/
def Obligations.GoStartsTheRun : Prop :=
  ∀ (sender : Addr) (cue : CueNo) (nest : Bool) (a : ArmRecord) (m : Mark) (h : History) (s : State),
    Accepts sender s → StopRespected s → s.drive.permanent = false → cue ≠ 0 →
    s.control.arm = some a → a.cue = cue → s.marks.table[a.first].record = some m →
    s.blend.history = some h →
    let st := s.control.axisState
    let inStack : Prop := st = .running ∨ st = .holding ∨ st = .waiting
    st = .live ∨ st = .armed ∨ st = .releasing ∨
      (inStack ∧ (nest = false ∨ s.control.stack.length < 3)) →
    let segment : Segment :=
      { kind := .mark, origin := h.prev, destination := a.first, delta := m.position - h.prev,
        duration := m.duration, ease := m.ease, tau := 0, dwellServed := false, wait := .nowhere }
    let run : RunContext :=
      { cue := a.cue, authority := a.authority, share := a.share, segment, heldAside := none,
        loop := { owner := none, count := 0 }, remainder := 0, frozen := false, chainSet := a.chainSet }
    let pushed (r : RunContext) : RunContext :=
      { r with segment := r.heldAside.getD r.segment, heldAside := none }
    let stack : List RunContext :=
      if inStack then
        if nest = true then (s.control.run.map pushed).toList ++ s.control.stack else s.control.stack
      else []
    let counted := if ownCue s.control = some cue then s.pace.counted else []
    let weightTarget : Nat := if a.authority = .follow then 4096 else a.share
    let s' : State := { heardFrom sender s with
      pace := { s.pace with applied := 0, counted },
      live := { s.live with remainder := 0 },
      blend := { s.blend with trim := 0, live := some h.prev, weightTarget } }
    ∃ t, exec (.go sender cue nest) s = .next t ∧ ChangedAmongRuns s' t ∧
      t.control = { axisState := .running, run := some run, arm := none, stack, cueResult := .noResult,
                    haltCause := none, holdCause := none, settle := none } ∧
      (∃ p, t.bus.paceSlot = some p ∧ p.running = true ∧ p.cue = cue ∧ p.destination = a.first) ∧
      (st ≠ .running → ∃ f, t.bus.stateSlot = some f ∧ f.axisState = .running ∧ f.cue = cue)

/-- The other ways of a GO: with number 0, and in SETUP, WAKING and PARKED, it is only heard; a nest with 3 contexts
stacked is STACK_FULL; without a record of its cue it continues a run that waits at a stop mark for it, is MISSED
elsewhere, and takes an armed node to LIVE; in HALTED and FAULT it is BAD_STATE. A run that continues goes on from the
loop: the loop-to link while passes are left, else the next link, RUNNING in both; without one the chain ends, in WAITING
where a context is stacked, else as the end field says (R14, R15, R16, R17, R38, R42, R45, R46, R50; what a RELEASE does
to the live-rate remainder is log 17). -/
def Obligations.GoContinuesOrMisses : Prop :=
  ∀ (sender : Addr) (cue : CueNo) (nest : Bool) (s : State), Accepts sender s → StopRespected s →
    s.drive.permanent = false →
    let s' := heardFrom sender s
    let said (x : CueResult) : State := { s' with control := { s.control with cueResult := x } }
    let st := s.control.axisState
    let pending : Prop := ∃ a, s.control.arm = some a ∧ a.cue = cue
    let inStack : Prop := st = .running ∨ st = .holding ∨ st = .waiting
    ∃ t, exec (.go sender cue nest) s = .next t ∧
      (cue = 0 ∨ st = .setup ∨ st = .waking ∨ st = .parked → t = s') ∧
      (cue ≠ 0 →
        (st = .halted ∨ st = .fault → t = said .badState) ∧
        (inStack → pending → nest = true → 3 ≤ s.control.stack.length → t = said .stackFull) ∧
        (st = .live ∨ st = .releasing → ¬ pending → t = said .missed) ∧
        (st = .armed → ¬ pending →
          LiveFrom { s' with control := { s.control with arm := none, cueResult := .missed } } t) ∧
        (∀ r, inStack → ¬ pending → s.control.run = some r →
          ¬ (st = .waiting ∧ r.segment.wait = .stop ∧ r.cue = cue) → t = said .missed) ∧
        (∀ r m, st = .waiting → ¬ pending → s.control.run = some r → r.segment.wait = .stop →
          r.cue = cue → s.marks.table[r.segment.destination].record = some m →
          let control : RunControl := { s.control with cueResult := .noResult }
          let goesOn (q : RunContext) : Prop := ChangedAmongRuns s' t ∧ Announced t ∧
            t.control = inRun .running none { control with run := some q }
          let ends (q : RunContext) : Prop :=
            if s.control.stack ≠ [] then
              let atEnd : RunContext := { q with segment := { q.segment with wait := .chainEnd } }
              ChangedAmongRuns s' t ∧ t.bus = s.bus ∧
                t.control = inRun .waiting none { control with run := some atEnd }
            else match m.endAction with
              | .release =>
                let remainder := if r.authority = .follow then 0 else s.live.remainder
                ChangedAmongRuns { s' with live := { s.live with remainder },
                                           blend := { s.blend with weightTarget := 0 } } t ∧
                Announced t ∧
                t.control = inRun .releasing none { control with run := some { q with frozen := true } }
              | .latch => LiveAt (some (presentSetpoint s.blend)) { s' with control } t
          let loop := loopStep r.segment.destination m.repeats r.loop
          let stood : RunContext := { r with segment := { r.segment with wait := .nowhere } }
          if m.loopTo.isSome = true ∧ loop.2 = true then
            ∃ k, m.loopTo = some k ∧
              goesOn { r with segment := markSegment m.position k (markAt s k), loop := loop.1 }
          else
            let q : RunContext := { stood with loop := if m.loopTo.isSome then loop.1 else r.loop }
            match m.next with
            | some k => goesOn { q with segment := markSegment m.position k (markAt s k) }
            | none => ends q))

/-- HOLD of a matching run in RUNNING enters HOLDING with cause OPERATOR, RESUME in HOLDING goes back to RUNNING, each
told to the rig at once; a HOLD without a run is BAD_STATE, and a RESUME in any state but HOLDING changes nothing; every
other case changes nothing (R38, R47, R89). -/
def Obligations.HoldAndResume : Prop :=
  ∀ (sender : Addr) (cue : CueNo) (s : State), Accepts sender s → StopRespected s →
    s.drive.permanent = false →
    let s' := heardFrom sender s
    let st := s.control.axisState
    (∀ r, hasRun st = true → s.control.run = some r → ∃ t, exec (.hold sender cue) s = .next t ∧
      if st = .running ∧ Matches cue r.cue then
        ChangedAmongRuns s' t ∧ t.control = inRun .holding (some .operator) s.control ∧ Announced t
      else t = s') ∧
    (st = .live ∨ st = .armed ∨ st = .halted ∨ st = .fault →
      exec (.hold sender cue) s =
        .next { s' with control := { s.control with cueResult := .badState } }) ∧
    (st = .setup ∨ st = .waking ∨ st = .parked → exec (.hold sender cue) s = .next s') ∧
    (∀ r, st = .holding → s.control.run = some r → ∃ t, exec (.resume sender cue) s = .next t ∧
      if Matches cue r.cue then
        ChangedAmongRuns s' t ∧ t.control = inRun .running none s.control ∧ Announced t
      else t = s') ∧
    (st ≠ .holding → exec (.resume sender cue) s = .next s')

/-- RETURN in RUNNING, HOLDING and WAITING pops the context on top: a RETURN-TRANSITION from the setpoint to where its
segment stood, CUBIC over 100 to 60,000 ms, with that segment held aside; trim 0, live position at the setpoint, the
weight target of its authority; with an empty stack it is NO_RETURN. In a state without a run, and for a matching run in
RELEASING, it is BAD_STATE; else it is only heard (R11, R38, R49, R67, R92, R114, R116). The counted set is kept where
the popped cue is the same number (the model's reading of R92, log 16). -/
def Obligations.ReturnGoesBack : Prop :=
  ∀ (sender : Addr) (cue : CueNo) (duration : BitVec 16) (s : State),
    Accepts sender s → StopRespected s → s.drive.permanent = false →
    let s' := heardFrom sender s
    let said (x : CueResult) : State := { s' with control := { s.control with cueResult := x } }
    let st := s.control.axisState
    let outcome := exec (.returnCue sender cue duration) s
    (∀ r h, st = .running ∨ st = .holding ∨ st = .waiting → s.control.run = some r →
      s.blend.history = some h →
      ∃ t, outcome = .next t ∧
        if Matches cue r.cue then
          match s.control.stack with
          | [] => t = said .noReturn
          | top :: rest =>
            let g := top.segment
            let back : Segment :=
              { kind := .returnTransition, origin := h.prev, destination := g.destination,
                delta := pathPosition g - h.prev, duration := max 100 (min duration.toNat 60000),
                ease := .cubic, tau := 0, dwellServed := false, wait := .nowhere }
            let counted := if r.cue = top.cue then s.pace.counted else []
            let weightTarget : Nat := if top.authority = .follow then 4096 else top.share
            ChangedAmongRuns { s' with
              pace := { s.pace with counted }, live := { s.live with remainder := 0 },
              blend := { s.blend with trim := 0, live := some h.prev, weightTarget } } t ∧
            t.control = inRun .running none { s.control with
              run := some { top with segment := back, heldAside := some g }, stack := rest,
              cueResult := .noResult } ∧
            ∃ p, t.bus.paceSlot = some p ∧ p.running = true ∧ p.cue = top.cue ∧
              p.destination = g.destination
        else t = s') ∧
    (∀ r, st = .releasing → s.control.run = some r →
      outcome = .next (if Matches cue r.cue then said .badState else s')) ∧
    (st = .live ∨ st = .armed ∨ st = .halted ∨ st = .fault → outcome = .next (said .badState)) ∧
    (st = .setup ∨ st = .waking ∨ st = .parked → outcome = .next s')

/-- A DEMAND frame: a channel at its base or one or two above it takes the value, clamped, from anyone while unowned and
else from its owner; the demand is shaped at once by deadband, expo and live rate, held at 0 by the interlock, which a
centred value with the deadman set clears; the grab timer follows its condition. A frame from address 0 reaches no record
and changes nothing, and a node without a record only hears its sender
(R97, R98, R101, R102, R103, R104, R107, R108). -/
def Obligations.DemandFrameIsShaped : Prop :=
  ∀ (sender : Addr) (p : DemandPayload) (s : State), Accepts sender s →
    (sender = 0 → exec (.demandFrame sender p) s = .next s) ∧
    (s.live.demand = none → s.live.dial = none →
      exec (.demandFrame sender p) s = .next (heardFrom sender s)) ∧
    ∀ c : Configuration, sender ≠ 0 → s.startup.config = some c →
      let given (ch : ChannelNo) : Option Int :=
        if p.base.val ≤ ch.val then [p.value0, p.value1, p.value2][ch.val - p.base.val]?.map BitVec.toInt
        else none
      let taken (r : ChannelRecord) : Option Int :=
        if r.owner = none ∨ r.owner = some sender then given r.channel else none
      let stored (r : ChannelRecord) (v : Int) : ChannelRecord :=
        { channel := r.channel, owner := some sender, value := some (max (-2047) (min v 2047)),
          deadman := p.deadman, age := 0, stale := false }
      ∃ t, exec (.demandFrame sender p) s = .next t ∧
        t = { heardFrom sender s with live := t.live } ∧ t.live.remainder = s.live.remainder ∧
        t.live.dial = (match s.live.dial with
          | none => none
          | some r => match taken r with
            | some v => some (stored r v)
            | none => some r) ∧
        match s.live.demand.bind fun r => (taken r).map fun v => (r, v) with
        | none => t.live = { s.live with dial := t.live.dial }
        | some (r, v) =>
          let x := if p.deadman = true then max (-2047) (min v 2047) else 0
          t.live.demand = some (stored r v) ∧
          (|x| ≤ c.deadband → t.live.deflection = 0) ∧
          (c.deadband < |x| →
            |t.live.deflection| = ⌊((|x| - c.deadband) * 2047 : ℚ) / (2047 - c.deadband)⌋ ∧
            0 ≤ t.live.deflection * x) ∧
          (∀ out : Int, c.expo ≤ 256 →
            (let exact : ℚ := (t.live.deflection * (256 - c.expo) +
                c.expo * (t.live.deflection : ℚ) ^ 3 / 2047 ^ 2) / 256
             0 ≤ out * t.live.deflection ∧ |(out : ℚ)| ≤ |exact| ∧ |exact| < |(out : ℚ)| + 1) →
            t.live.recentre = (s.live.recentre && !(p.deadman && out == 0)) ∧
            t.live.velocity = if s.live.recentre = true then 0
              else roundHalfAway (out * c.liveRate / 2047)) ∧
          t.live.grabTimer =
            if (s.control.axisState = .running ∨ s.control.axisState = .holding) ∧
                (∃ r, s.control.run = some r ∧ r.authority = .follow) ∧ 0 < c.grabLevel ∧
                c.grabLevel ≤ |t.live.deflection| ∧ t.live.recentre = false
            then some (s.live.grabTimer.getD 0) else none

/-- What the peer table records, in the sender's entry and no other: every frame its heard age and presence, a PACE frame
need (at most 1024), cue, flags and pace age, a STATE frame its fields. A station not heard before gets an entry with
nothing known, its pace and state ages at 65,535. A PACE frame that names another cue or no state
takes its sender out of the counted set; STATE, REPLY and unknown verbs do nothing more
(R92, R145, R146, R147, R150, R173). -/
def Obligations.FramesAreRecorded : Prop :=
  ∀ (sender : Addr) (p : PacePayload) (q : StatePayload) (s : State), Accepts sender s → PeersLawful s →
    let unheard : PeerEntry :=
      { address := sender, station := .unknown, axisKind := none, lastState := none, lastCue := none,
        position := none, need := none, paceCue := none, flags := ⟨false, false, false, false, false⟩,
        heardAge := 0, paceAge := 65535, stateAge := 65535, presence := .present }
    let entry := (peerAt s.peers sender).getD unheard
    let records (t : State) (e : PeerEntry) : Prop :=
      (∀ b, b ≠ sender → peerAt t.peers b = peerAt s.peers b) ∧ (sender = 0 → t.peers = s.peers) ∧
      (sender ≠ 0 → peerAt t.peers sender = some { e with heardAge := 0, presence := .present })
    let counted : List Addr := if ownCue s.control ≠ some p.cue ∨
        (p.armed = false ∧ p.running = false ∧ p.holding = false ∧ p.waiting = false)
      then s.pace.counted.filter (· ≠ sender) else s.pace.counted
    (∃ t, exec (.paceFrame sender p) s = .next t ∧
      t = { s with peers := t.peers, pace := { s.pace with counted } } ∧
      records t { entry with
        need := some (min 1024 p.need.toNat), paceCue := some p.cue,
        flags := ⟨p.armed, p.running, p.holding, p.waiting, p.limited⟩, paceAge := 0 }) ∧
    (∃ t, exec (.stateFrame sender q) s = .next t ∧ t = { s with peers := t.peers } ∧
      records t { entry with
        station := if q.hand then .hand else .axis,
        axisKind := if q.hand then none else axisKindOfCode q.axisKind.toNat,
        lastState := axisStateOfCode q.axisState.toNat, lastCue := some q.cue,
        position := if q.positionPresent then some q.position.toInt else none, stateAge := 0 }) ∧
    (records (heardFrom sender s) entry ∧
      (∀ (r : Addr) (tag result : Byte) (data : List Byte),
        exec (.replyFrame sender r tag result data) s = .next (heardFrom sender s)) ∧
      ∀ (verb : Byte) (cue : CueNo),
        exec (.cueUnknownVerb sender verb cue) s = .next (heardFrom sender s))

/-- A frame of any kind that bears the node's own address is recorded nowhere and not acted on: in SETUP and PARKED it does
nothing, in FAULT it restarts the clash age, elsewhere the node faults with ADDRESS_CLASH
(R140, R141, R142, R146, R152). -/
def Obligations.OwnAddressIsAClash : Prop :=
  ∀ (i : Instr) (s : State), frameSender i = some s.startup.address → s.startup.phase = .running →
    s.startup.address ≠ 0 → s.drive.permanent = false →
    let clash : State := { s with drive := { s.drive with clashAge := some 0 } }
    let st := s.control.axisState
    ∃ t, exec i s = .next t ∧
      if st = .setup ∨ st = .parked then t = s
      else if st = .fault then t = clash
      else FaultedFrom .addressClash clash t

/-! ### Commands (chapters 8 and 9) -/

/-- Which commands a state takes: the answers of R156's table for a COMMAND the node acts on, with room for its reply;
PARKED ignores all but WAKE, and an unknown code is UNKNOWN. A COMMAND for another station, from a requester without an
address, under the permanent marker or with 4 replies waiting leaves its sender heard and no other trace
(R37, R154, R155, R156). One taken with fewer argument bytes than its layout has is BAD_ARG before any other case (R157;
the order is the model's reading, log 18). While the reset line is asserted or loading runs, no frame has any effect
(R171, R172, R177), nor has any event of the node's own; only RESET, RESET_RELEASE, LOADING_END and the stop pin's level
are taken (the model's reading, log 27). -/
def Obligations.CommandsAreGatedByState : Prop :=
  (∀ (i : Instr) (s : State), s.startup.phase ≠ .running → i ≠ .reset → (∀ a b, i ≠ .resetRelease a b) →
    i ≠ .loadingEnd → (∀ active, i ≠ .stopInputChange active) → exec i s = .next s) ∧
  (∀ (active : Bool) (s : State), s.startup.phase ≠ .running →
    exec (.stopInputChange active) s = .next { s with stopInput := active }) ∧
  ∀ (h : CommandHeader) (code : Byte) (args : List Byte) (s : State), Accepts h.sender s →
    let st := s.control.axisState
    let edits : List Instr := [.markOpen h args, .markSet h args, .markClose h args, .markErase h args, .save h args]
    let reads : List Instr := [.markRead h args, .peerRead h args]
    let configs : List Instr := [.configSet h args, .configDone h args]
    let others : List Instr := [.park h args, .clear h args, .unknownCommand h code args]
    let heard : State := heardFrom h.sender s
    let gives (i : Instr) (r : Result) : Prop := exec i s = .next (sendReply h r [] heard)
    (h.sender = 0 ∨ (h.target ≠ 0 ∧ h.target ≠ s.startup.address) ∨ s.drive.permanent = true ∨
        4 ≤ s.bus.replies.length →
      ∀ i ∈ edits ++ reads ++ configs ++ others ++ [.wake h args], exec i s = .next heard) ∧
    (st = .parked → ∀ i ∈ edits ++ reads ++ configs ++ others, exec i s = .next heard) ∧
    (Taken h s → st ≠ .parked →
      gives (.unknownCommand h code args) .unknown ∧ gives (.wake h args) .badState ∧
      (st ≠ .live → gives (.park h args) .badState) ∧ (st ≠ .fault → gives (.clear h args) .badState) ∧
      (st = .setup ∨ st = .waking → ∀ i ∈ edits, gives i .badState) ∧
      (st = .waking → ∀ i ∈ reads ++ configs, gives i .badState) ∧
      (st ≠ .setup → st ≠ .waking → ∀ i ∈ configs, gives i .locked)) ∧
    (Taken h s → TakesMarkCommands st →
      (args.length < 1 → gives (.markOpen h args) .badArg ∧ gives (.markClose h args) .badArg ∧
        gives (.markErase h args) .badArg) ∧
      (args.length < 5 → gives (.markSet h args) .badArg)) ∧
    (Taken h s → TakesMarkCommands st ∨ st = .setup →
      (args.length < 1 → gives (.peerRead h args) .badArg) ∧
      (args.length < 2 → gives (.markRead h args) .badArg)) ∧
    (Taken h s → st = .setup → args.length < 5 → gives (.configSet h args) .badArg)

/-- MARK_OPEN: the cases of R159 in their order; the staged copy is the slot's record, or the start values of R1 at the
present setpoint for an EMPTY slot. -/
def Obligations.MarkOpenStagesACopy : Prop :=
  ∀ (h : CommandHeader) (b : Byte) (more : List Byte) (s : State), Taken h s →
    TakesMarkCommands s.control.axisState →
    let s' := heardFrom h.sender s
    let outcome := exec (.markOpen h (b :: more)) s
    let no (r : Result) : Prop := outcome = .next (sendReply h r [] s')
    let opened (n : MarkNo) (status : Byte) (m : Mark) : Prop :=
      let edit : OpenEdit := { mark := n, staged := m, holder := h.sender, lease := 0 }
      outcome = .next (sendReply h .ok [b, status] { s' with marks := { s.marks with edit := some edit } })
    (64 ≤ b.toNat → no .badArg) ∧
    ∀ n : MarkNo, n.val = b.toNat →
      if s.marks.edit ≠ none then no .locked
      else if s.marks.save ≠ none then no .busy
      else if HeldInAChain s.control n then no .busy
      else match s.marks.table[n].record with
      | some m => opened n 1 m
      | none => match s.blend.history with
        | none => no .badState
        | some x => opened n 0
            { position := x.prev, duration := 3000, ease := .cubic, authority := .follow, share := 4096,
              dwell := 0, next := none, loopTo := none, repeats := 1, stop := false,
              endAction := .release }

/-- MARK_SET: the cases of R160 in their order, over every field code and every signed 32-bit value; OK and CLAMPED store
the value in the staged copy alone and restart the lease. -/
def Obligations.MarkSetStagesAField : Prop :=
  ∀ (h : CommandHeader) (f b3 b2 b1 b0 : Byte) (more : List Byte) (c : Configuration) (s : State),
    Taken h s → TakesMarkCommands s.control.axisState → s.startup.config = some c →
    let v := valueOf b3 b2 b1 b0
    let s' := heardFrom h.sender s
    let outcome := exec (.markSet h (f :: b3 :: b2 :: b1 :: b0 :: more)) s
    let no (r : Result) : Prop := outcome = .next (sendReply h r [] s')
    let into (low high : Int) : Int := max low (min v high)
    let link : Option (Option MarkNo) :=
      if h : 0 ≤ v ∧ v < 64 then some (some ⟨v.toNat, by omega⟩) else if v = 255 then some none else none
    match s.marks.edit with
    | none => no .notOpen
    | some e =>
      if e.holder ≠ h.sender then no .locked
      else
        let m := e.staged
        let stored : Option (Mark × Int) := match f.toNat with
          | 0 => some ({ m with position := into c.limitLow c.limitHigh }, into c.limitLow c.limitHigh)
          | 1 => some ({ m with duration := (into 100 600000).toNat }, into 100 600000)
          | 2 => (if v = 0 then some Ease.cubic else if v = 1 then some .quintic
              else if v = 2 then some .cruise else none).map fun x => ({ m with ease := x }, v)
          | 3 => (if v = 0 then some Authority.follow else if v = 1 then some .share else none).map
              fun x => ({ m with authority := x }, v)
          | 4 => some ({ m with share := (into 0 4096).toNat }, into 0 4096)
          | 5 => some ({ m with dwell := (into 0 60000).toNat }, into 0 60000)
          | 6 => link.map fun x => ({ m with next := x }, v)
          | 7 => link.map fun x => ({ m with loopTo := x }, v)
          | 8 => some ({ m with repeats := (into 1 255).toNat }, into 1 255)
          | 9 => if v = 0 ∨ v = 1 then some ({ m with stop := v == 1 }, v) else none
          | 10 => (if v = 0 then some EndAction.release else if v = 1 then some .latch else none).map
              fun x => ({ m with endAction := x }, v)
          | _ => none
        match stored with
        | none => no .badArg
        | some (m', x) => outcome = .next
            (sendReply h (if x = v then .ok else .clamped) (f :: valueBytes x)
              { s' with marks := { s.marks with edit := some { e with staged := m', lease := 0 } } })

/-- MARK_CLOSE and MARK_ERASE: the cases of R161 and of R162 in their order. A commit writes the staged copy into its slot,
VALID and unsaved; an erase makes its slot EMPTY and unsaved; neither touches another slot, and a mark in a chain set is
BUSY (R2, R7, R161, R162). -/
def Obligations.CloseAndEraseChangeOneSlot : Prop :=
  ∀ (h : CommandHeader) (b : Byte) (more : List Byte) (s : State), Taken h s →
    TakesMarkCommands s.control.axisState →
    let s' := heardFrom h.sender s
    let close := exec (.markClose h (b :: more)) s
    let erase := exec (.markErase h (b :: more)) s
    let gives (o : Host.Outcome State Fault Refusal) (r : Result) (marks : MarkStore) : Prop :=
      o = .next (sendReply h r [] { s' with marks })
    let written (table : Vector MarkSlot 64) (n : MarkNo) (slot : MarkSlot) : Prop :=
      table[n] = slot ∧ ∀ k, k ≠ n → table[k] = s.marks.table[k]
    (match s.marks.edit with
    | none => gives close .notOpen s.marks
    | some e =>
      if e.holder ≠ h.sender then gives close .locked s.marks
      else if b = 0 then gives close .ok { s.marks with edit := none }
      else if b = 1 then
        if HeldInAChain s.control e.mark then gives close .busy s.marks
        else ∃ table, gives close .ok { s.marks with edit := none, table } ∧
          written table e.mark { record := some e.staged, unsaved := true }
      else gives close .badArg s.marks) ∧
    (64 ≤ b.toNat → gives erase .badArg s.marks) ∧
    ∀ n : MarkNo, n.val = b.toNat →
      if s.marks.save ≠ none then gives erase .busy s.marks
      else if HeldInAChain s.control n then gives erase .busy s.marks
      else if ∃ e, s.marks.edit = some e ∧ e.mark = n then gives erase .locked s.marks
      else ∃ table, gives erase .ok { s.marks with table } ∧
        written table n { record := none, unsaved := true }

/-- MARK_READ reads the table and changes nothing: BAD_ARG for a mark above 63 or a field code above 10, the status byte
for an EMPTY slot, the status byte and the field's value for a VALID one (R163). -/
def Obligations.MarkReadReadsTheTable : Prop :=
  ∀ (h : CommandHeader) (b f : Byte) (more : List Byte) (s : State), Taken h s →
    TakesMarkCommands s.control.axisState ∨ s.control.axisState = .setup →
    let outcome := exec (.markRead h (b :: f :: more)) s
    let gives (r : Result) (data : List Byte) : Prop :=
      outcome = .next (sendReply h r data (heardFrom h.sender s))
    let link (k : Option MarkNo) : Int := match k with
      | none => 255
      | some k => k.val
    (64 ≤ b.toNat ∨ 11 ≤ f.toNat → gives .badArg []) ∧
    ∀ n : MarkNo, n.val = b.toNat → f.toNat < 11 →
      let unsaved := s.marks.table[n].unsaved
      match s.marks.table[n].record with
      | none => gives .empty [if unsaved then 2 else 0]
      | some m => gives .ok ((if unsaved then 3 else 1) :: valueBytes (match f.toNat with
          | 0 => m.position
          | 1 => m.duration
          | 2 => match m.ease with
            | .cubic => 0
            | .quintic => 1
            | .cruise => 2
          | 3 => if m.authority = .follow then 0 else 1
          | 4 => m.share
          | 5 => m.dwell
          | 6 => link m.next
          | 7 => link m.loopTo
          | 8 => m.repeats
          | 9 => if m.stop then 1 else 0
          | _ => if m.endAction = .release then 0 else 1))

/-- SAVE starts at slot 0 unless a save runs or an edit is open; the end of a slot's write stores that slot with its
record, clears its unsaved marker and begins the next, until slot 63 ends the save; no slot's content in the table
changes, and the configuration record stands (R2, R164, R165). -/
def Obligations.SaveWritesEverySlotInTurn : Prop :=
  ∀ s : State,
    let begun (v : Vector SavedSlot 64) (n : MarkNo) : Vector SavedSlot 64 :=
      v.set n { v[n] with inProgress := true }
    (∀ (h : CommandHeader) (args : List Byte), Taken h s → TakesMarkCommands s.control.axisState →
      let s' := heardFrom h.sender s
      if s.marks.save ≠ none ∨ s.marks.edit ≠ none then
        exec (.save h args) s = .next (sendReply h .busy [] s')
      else exec (.save h args) s = .next (sendReply h .ok []
        { s' with marks := { s.marks with save := some { slot := 0, elapsed := 0 } },
                  nonvolatile := { s.nonvolatile with slots := begun s.nonvolatile.slots 0 } })) ∧
    (∀ p, s.startup.phase = .running → s.marks.save = some p →
      let n := p.slot
      let stored := s.nonvolatile.slots.set n { record := s.marks.table[n].record, inProgress := false }
      let table := s.marks.table.set n { record := s.marks.table[n].record, unsaved := false }
      exec .saveSlotWriteEnd s = .next
        (if h : n.val + 1 < 64 then
          { s with marks := { s.marks with table, save := some { slot := ⟨n.val + 1, h⟩, elapsed := 0 } },
                   nonvolatile := { s.nonvolatile with slots := begun stored ⟨n.val + 1, h⟩ } }
        else { s with marks := { s.marks with table, save := none },
                      nonvolatile := { s.nonvolatile with slots := stored } }))

/-- PEER_READ reads the peer table as it stands, with the requester itself just recorded, and changes nothing else: the
state field (LOST before the last state, 15 where none is known), the need or FFFFH, the age in 10 ms, the pace cue
(R147, R153; where a STATE frame carried no known state code, the model's choice, log 23; that the requester's own frame is recorded before the table is read is the model's reading,
log 38). -/
def Obligations.PeerReadReadsAnEntry : Prop :=
  ∀ (h : CommandHeader) (b : Byte) (more : List Byte) (s : State), Taken h s →
    TakesMarkCommands s.control.axisState ∨ s.control.axisState = .setup →
    let s' := heardFrom h.sender s
    let outcome := exec (.peerRead h (b :: more)) s
    let gives (r : Result) (data : List Byte) : Prop := outcome = .next (sendReply h r data s')
    (b.toNat = 0 ∨ 31 < b.toNat ∨ b.toNat = s.startup.address.toNat → gives .badArg []) ∧
    ∀ a : Addr, a.toNat = b.toNat → a ≠ 0 → a ≠ s.startup.address →
      match peerAt s'.peers a with
      | none => gives .empty []
      | some e =>
        let state : Nat := if e.presence = .lost then 14
          else match e.lastState with
            | some st => axisStateCode st
            | none => 15
        let need : Nat := e.need.getD 0xFFFF
        gives .ok [BitVec.ofNat 8 state, BitVec.ofNat 8 (need / 256), BitVec.ofNat 8 need,
          BitVec.ofNat 8 (min 255 (e.paceAge / 10)), e.paceCue.getD 0]

/-! ### The bus (chapter 10) -/

/-- On an idle line the node starts the first of HALT, PACE, STATE and the oldest REPLY that it holds, under its sampled
address, and nothing where all are empty or the permanent marker stands. The echo-error count starts again from 0 for a
frame other than the last attempt's; nothing else changes (R168, R169, R170, R171, R178; that a refilled slot holds
another frame is log 31). -/
def Obligations.IdleLineSendsTheLowestIdentifier : Prop :=
  ∀ s : State, s.startup.phase = .running → (∀ h, s.bus.inHand = some h → h.sending = false) →
    let sends (k : SentKind) (f : SentFrame) : Prop :=
      let same : Prop := ∃ h, s.bus.inHand = some h ∧ h.kind = k ∧ h.replaced = false
      exec .frameSendStart s = .next
        { s with bus := { s.bus with line := .frame s.startup.address f,
                                     inHand := some { kind := k, sending := true, replaced := false },
                                     echoErrors := if same then s.bus.echoErrors else 0 } }
    if s.drive.permanent = true then exec .frameSendStart s = .next s
    else match s.bus.haltSlot with
    | some c => sends .halt (.halt c)
    | none => match s.bus.paceSlot with
      | some p => sends .pace (.pace p)
      | none => match s.bus.stateSlot with
        | some f => sends .state (.state f)
        | none => match s.bus.replies with
          | r :: _ => sends .reply (.reply r)
          | [] => exec .frameSendStart s = .next s

/-- What ends a frame on the line. Lost contention keeps it queued and the count as it was. An echo error adds one with an
error mark, and the eighth drops the frame and reports LINK; so does FRAME_DROP (as a command of its own, log 14). Sent
intact, it leaves its slot or queue, unless the slot was refilled, and the first intact one after a LINK cause was
recorded sets the LINK intact flag (R131, R141, R142, R168, R169, R170; log 36). -/
def Obligations.LineEventsEndAFrame : Prop :=
  ∀ (h : InHand) (s : State), s.startup.phase = .running → s.bus.inHand = some h → h.sending = true →
    s.drive.permanent = false →
    let b := s.bus
    let quiet : Option InHand := some { h with sending := false }
    let removed : BusController :=
      if h.replaced = true then { b with inHand := none, echoErrors := 0 }
      else match h.kind with
        | .halt => { b with inHand := none, echoErrors := 0, haltSlot := none }
        | .pace => { b with inHand := none, echoErrors := 0, paceSlot := none }
        | .state => { b with inHand := none, echoErrors := 0, stateSlot := none }
        | .reply => { b with inHand := none, echoErrors := 0, replies := b.replies.tail }
    let dropped : State := { s with bus := { removed with line := .errorMark } }
    let reported (t : State) : Prop :=
      if s.control.axisState = .setup ∨ s.control.axisState = .parked then t = dropped
      else if s.control.axisState = .fault then
        let awaited : Bool := s.drive.linkAwaited || s.drive.faultCause == some .link
        t = { dropped with drive := { s.drive with linkIntact := false, linkAwaited := awaited } }
      else FaultedFrom .link dropped t
    exec .lostContention s = .next { s with bus := { b with line := .silent, inHand := quiet } } ∧
    (b.echoErrors + 1 < 8 → exec .echoError s = .next
      { s with bus := { b with line := .errorMark, inHand := quiet, echoErrors := b.echoErrors + 1 } }) ∧
    (8 ≤ b.echoErrors + 1 → ∃ t, exec .echoError s = .next t ∧ reported t) ∧
    (∃ t, exec .frameDrop s = .next t ∧ reported t) ∧
    (let intact : Bool := s.drive.linkIntact || s.drive.linkAwaited
     exec .frameSentIntact s = .next
       { s with bus := { removed with line := .silent },
                drive := { s.drive with linkIntact := intact, linkAwaited := false } })

/-- Every frame of the node passes the checks of a receiver and is read back as the frame that was filled, with a need,
a position and reply data of the widths of their fields (R167, R172, R176). -/
def Obligations.SentFramesAreReadBack : Prop :=
  ∀ a : Addr,
    (∀ c : FaultCause, ∃ b, decodeFrame (rawFrame a (.halt c)) = some (.haltFrame a b) ∧
      haltCauseOfCode b.toNat = faultAsCause c) ∧
    (∀ p : PaceFrame, p.need < 65536 → ∃ q, decodeFrame (rawFrame a (.pace p)) = some (.paceFrame a q) ∧
      q.need.toNat = p.need ∧ q.cue = p.cue ∧ q.armed = p.armed ∧ q.running = p.running ∧
      q.holding = p.holding ∧ q.waiting = p.waiting ∧ q.limited = p.limited ∧
      q.destination = p.destination) ∧
    (∀ f : StateFrame, (∀ x, f.position = some x → -2 ^ 31 ≤ x ∧ x < 2 ^ 31) →
      ∃ q, decodeFrame (rawFrame a (.state f)) = some (.stateFrame a q) ∧ q.hand = false ∧
        axisKindOfCode q.axisKind.toNat = f.axisKind ∧ axisStateOfCode q.axisState.toNat = some f.axisState ∧
        q.cueResult.toNat = cueResultCode f.cueResult ∧ q.cue = f.cue ∧
        q.cause.toNat = causeField f.cause ∧ q.pendingArm = f.pendingArm ∧ q.saving = f.saving ∧
        q.recentre = f.recentre ∧ q.limited = f.limited ∧
        (if q.positionPresent then some q.position.toInt else none) = f.position) ∧
    (∀ r : Reply, r.data.length ≤ 5 → decodeFrame (rawFrame a (.reply r)) =
      some (.replyFrame a r.requester r.tag (BitVec.ofNat 8 (resultCode r.result)) r.data))

/-! ### The laws every step keeps -/

/-- The node in reset meets every law below (R7, R21, R73, R95, R111, R131, R145, R155, R158, R164, R171; where the spec
names no value, the model's: a blank store, SETUP until the load, the stop input inactive, logs 5, 6 and 7). -/
def Obligations.ResetMeetsTheLaws : Prop :=
  RecordsFit State.reset ∧ StopRespected State.reset ∧ PaceBounded State.reset ∧
    BlendAtRest State.reset ∧ WeightsBounded State.reset ∧ SetpointsWithin State.reset ∧
    EnableLawful State.reset ∧ BusBounded State.reset ∧ PeersLawful State.reset ∧
    EditExcludesSave State.reset ∧ NoChainInSetup State.reset

/-- Run control and the drive link hold the records of their axis state, and no others (R21, R22, R50, R131). -/
def Obligations.StepKeepsRecordsFit : Prop :=
  ∀ s t : State, RecordsFit s → Machine.step s = .next t → RecordsFit t

/-- A node that steers its axis has its stop input active; the enable output is off in SETUP, in PARKED, in WAKING before
capture, and in FAULT with a lost or misplaced drive (R32, R132, R135, R139). -/
def Obligations.StepKeepsStopAndEnable : Prop :=
  ∀ s t : State, StopRespected s ∧ EnableLawful s → Machine.step s = .next t →
    StopRespected t ∧ EnableLawful t

/-- The applied pace lies in 0 … 1024, and is 0 without a run; without a run weight and trim are 0, and the trim never
passes TRIM_MAX. The weight and its target lie in 0 … 4096, as every share does that a mark, an arm record or a run holds
(R1, R74, R85, R115, R117). -/
def Obligations.StepKeepsPaceAndBlendBounded : Prop :=
  (∀ s t : State, PaceBounded s ∧ BlendAtRest s → Machine.step s = .next t → PaceBounded t ∧ BlendAtRest t) ∧
  ∀ s t : State, WeightsBounded s → Machine.step s = .next t → WeightsBounded t

/-- The setpoints and the live position lie within the limits in force, and both are there whenever the node steers its
axis and in WAKING once feedback is captured; a halted node, and one whose enable output is on, has its setpoints
(R118, R124, R129, R180). -/
def Obligations.StepKeepsSetpointsWithin : Prop :=
  ∀ s t : State, SetpointsWithin s → Machine.step s = .next t → SetpointsWithin t

/-- The reply queue and the echo-error count keep their bounds, and no edit is open while a save runs
(R155, R158, R164, R169). -/
def Obligations.StepKeepsQueueAndEditBounds : Prop :=
  ∀ s t : State, BusBounded s ∧ EditExcludesSave s → Machine.step s = .next t →
    BusBounded t ∧ EditExcludesSave t

/-- The peer table holds at most one entry for an address, and none for address 0 or the node's own (R145, R146). -/
def Obligations.StepKeepsPeersLawful : Prop :=
  ∀ s t : State, PeersLawful s → Machine.step s = .next t → PeersLawful t

/-- A mark in a chain set keeps its table content: no step but a RESET changes its record. A configuration write, which
clamps the marks, runs in SETUP alone, and in SETUP, reset and loading no chain is set (R7, R181). -/
def Obligations.ChainSetsKeepTheirMarks : Prop :=
  ∀ s t : State, NoChainInSetup s → Machine.step s = .next t → NoChainInSetup t ∧
    ∀ n : MarkNo, HeldInAChain s.control n → s.pending.head? ≠ some .reset →
      t.marks.table[n].record = s.marks.table[n].record
end

