-- ==== Sys2Proof/Laws/State.lean ====
section
/-! SUPPORT. What each small update of the state leaves as it was, one lemma for a field, so that no later proof
unfolds an update. -/

namespace Sys2Proof.Machine

/-! ### Updates of run control -/

@[simp] theorem onSegment_startup (f : Segment → Segment) (s : State) :
    (onSegment f s).startup = s.startup := rfl
@[simp] theorem onSegment_nonvolatile (f : Segment → Segment) (s : State) :
    (onSegment f s).nonvolatile = s.nonvolatile := rfl
@[simp] theorem onSegment_stopInput (f : Segment → Segment) (s : State) :
    (onSegment f s).stopInput = s.stopInput := rfl
@[simp] theorem onSegment_marks (f : Segment → Segment) (s : State) :
    (onSegment f s).marks = s.marks := rfl
@[simp] theorem onSegment_pace (f : Segment → Segment) (s : State) :
    (onSegment f s).pace = s.pace := rfl
@[simp] theorem onSegment_live (f : Segment → Segment) (s : State) :
    (onSegment f s).live = s.live := rfl
@[simp] theorem onSegment_blend (f : Segment → Segment) (s : State) :
    (onSegment f s).blend = s.blend := rfl
@[simp] theorem onSegment_drive (f : Segment → Segment) (s : State) :
    (onSegment f s).drive = s.drive := rfl
@[simp] theorem onSegment_peers (f : Segment → Segment) (s : State) :
    (onSegment f s).peers = s.peers := rfl
@[simp] theorem onSegment_bus (f : Segment → Segment) (s : State) :
    (onSegment f s).bus = s.bus := rfl
@[simp] theorem onSegment_pending (f : Segment → Segment) (s : State) :
    (onSegment f s).pending = s.pending := rfl
@[simp] theorem onSegment_control_axisState (f : Segment → Segment) (s : State) :
    (onSegment f s).control.axisState = s.control.axisState := rfl
@[simp] theorem onSegment_control_arm (f : Segment → Segment) (s : State) :
    (onSegment f s).control.arm = s.control.arm := rfl
@[simp] theorem onSegment_control_stack (f : Segment → Segment) (s : State) :
    (onSegment f s).control.stack = s.control.stack := rfl
@[simp] theorem onSegment_control_cueResult (f : Segment → Segment) (s : State) :
    (onSegment f s).control.cueResult = s.control.cueResult := rfl
@[simp] theorem onSegment_control_haltCause (f : Segment → Segment) (s : State) :
    (onSegment f s).control.haltCause = s.control.haltCause := rfl
@[simp] theorem onSegment_control_holdCause (f : Segment → Segment) (s : State) :
    (onSegment f s).control.holdCause = s.control.holdCause := rfl
@[simp] theorem onSegment_control_settle (f : Segment → Segment) (s : State) :
    (onSegment f s).control.settle = s.control.settle := rfl

@[simp] theorem freezePath_startup (s : State) :
    (freezePath s).startup = s.startup := rfl
@[simp] theorem freezePath_nonvolatile (s : State) :
    (freezePath s).nonvolatile = s.nonvolatile := rfl
@[simp] theorem freezePath_stopInput (s : State) :
    (freezePath s).stopInput = s.stopInput := rfl
@[simp] theorem freezePath_marks (s : State) :
    (freezePath s).marks = s.marks := rfl
@[simp] theorem freezePath_pace (s : State) :
    (freezePath s).pace = s.pace := rfl
@[simp] theorem freezePath_live (s : State) :
    (freezePath s).live = s.live := rfl
@[simp] theorem freezePath_blend (s : State) :
    (freezePath s).blend = s.blend := rfl
@[simp] theorem freezePath_drive (s : State) :
    (freezePath s).drive = s.drive := rfl
@[simp] theorem freezePath_peers (s : State) :
    (freezePath s).peers = s.peers := rfl
@[simp] theorem freezePath_bus (s : State) :
    (freezePath s).bus = s.bus := rfl
@[simp] theorem freezePath_pending (s : State) :
    (freezePath s).pending = s.pending := rfl
@[simp] theorem freezePath_control_axisState (s : State) :
    (freezePath s).control.axisState = s.control.axisState := rfl
@[simp] theorem freezePath_control_arm (s : State) :
    (freezePath s).control.arm = s.control.arm := rfl
@[simp] theorem freezePath_control_stack (s : State) :
    (freezePath s).control.stack = s.control.stack := rfl
@[simp] theorem freezePath_control_cueResult (s : State) :
    (freezePath s).control.cueResult = s.control.cueResult := rfl
@[simp] theorem freezePath_control_haltCause (s : State) :
    (freezePath s).control.haltCause = s.control.haltCause := rfl
@[simp] theorem freezePath_control_holdCause (s : State) :
    (freezePath s).control.holdCause = s.control.holdCause := rfl
@[simp] theorem freezePath_control_settle (s : State) :
    (freezePath s).control.settle = s.control.settle := rfl

@[simp] theorem cueAnswer_startup (r : CueResult) (s : State) :
    (cueAnswer r s).startup = s.startup := rfl
@[simp] theorem cueAnswer_nonvolatile (r : CueResult) (s : State) :
    (cueAnswer r s).nonvolatile = s.nonvolatile := rfl
@[simp] theorem cueAnswer_stopInput (r : CueResult) (s : State) :
    (cueAnswer r s).stopInput = s.stopInput := rfl
@[simp] theorem cueAnswer_marks (r : CueResult) (s : State) :
    (cueAnswer r s).marks = s.marks := rfl
@[simp] theorem cueAnswer_pace (r : CueResult) (s : State) :
    (cueAnswer r s).pace = s.pace := rfl
@[simp] theorem cueAnswer_live (r : CueResult) (s : State) :
    (cueAnswer r s).live = s.live := rfl
@[simp] theorem cueAnswer_blend (r : CueResult) (s : State) :
    (cueAnswer r s).blend = s.blend := rfl
@[simp] theorem cueAnswer_drive (r : CueResult) (s : State) :
    (cueAnswer r s).drive = s.drive := rfl
@[simp] theorem cueAnswer_peers (r : CueResult) (s : State) :
    (cueAnswer r s).peers = s.peers := rfl
@[simp] theorem cueAnswer_bus (r : CueResult) (s : State) :
    (cueAnswer r s).bus = s.bus := rfl
@[simp] theorem cueAnswer_pending (r : CueResult) (s : State) :
    (cueAnswer r s).pending = s.pending := rfl
@[simp] theorem cueAnswer_control_axisState (r : CueResult) (s : State) :
    (cueAnswer r s).control.axisState = s.control.axisState := rfl
@[simp] theorem cueAnswer_control_arm (r : CueResult) (s : State) :
    (cueAnswer r s).control.arm = s.control.arm := rfl
@[simp] theorem cueAnswer_control_stack (r : CueResult) (s : State) :
    (cueAnswer r s).control.stack = s.control.stack := rfl
@[simp] theorem cueAnswer_control_haltCause (r : CueResult) (s : State) :
    (cueAnswer r s).control.haltCause = s.control.haltCause := rfl
@[simp] theorem cueAnswer_control_holdCause (r : CueResult) (s : State) :
    (cueAnswer r s).control.holdCause = s.control.holdCause := rfl
@[simp] theorem cueAnswer_control_settle (r : CueResult) (s : State) :
    (cueAnswer r s).control.settle = s.control.settle := rfl
@[simp] theorem cueAnswer_control_run (r : CueResult) (s : State) :
    (cueAnswer r s).control.run = s.control.run := rfl

@[simp] theorem onSegment_run_isSome (f : Segment → Segment) (s : State) :
    (onSegment f s).control.run.isSome = s.control.run.isSome := by simp [onSegment]

@[simp] theorem freezePath_run_isSome (s : State) :
    (freezePath s).control.run.isSome = s.control.run.isSome := by simp [freezePath]

@[simp] theorem cueAnswer_cueResult (r : CueResult) (s : State) :
    (cueAnswer r s).control.cueResult = r := rfl

/-! ### A reply, and a station heard -/

@[simp] theorem sendReply_startup (h : CommandHeader) (r : Result) (d : List Byte) (s : State) :
    (sendReply h r d s).startup = s.startup := rfl
@[simp] theorem sendReply_nonvolatile (h : CommandHeader) (r : Result) (d : List Byte) (s : State) :
    (sendReply h r d s).nonvolatile = s.nonvolatile := rfl
@[simp] theorem sendReply_stopInput (h : CommandHeader) (r : Result) (d : List Byte) (s : State) :
    (sendReply h r d s).stopInput = s.stopInput := rfl
@[simp] theorem sendReply_marks (h : CommandHeader) (r : Result) (d : List Byte) (s : State) :
    (sendReply h r d s).marks = s.marks := rfl
@[simp] theorem sendReply_control (h : CommandHeader) (r : Result) (d : List Byte) (s : State) :
    (sendReply h r d s).control = s.control := rfl
@[simp] theorem sendReply_pace (h : CommandHeader) (r : Result) (d : List Byte) (s : State) :
    (sendReply h r d s).pace = s.pace := rfl
@[simp] theorem sendReply_live (h : CommandHeader) (r : Result) (d : List Byte) (s : State) :
    (sendReply h r d s).live = s.live := rfl
@[simp] theorem sendReply_blend (h : CommandHeader) (r : Result) (d : List Byte) (s : State) :
    (sendReply h r d s).blend = s.blend := rfl
@[simp] theorem sendReply_drive (h : CommandHeader) (r : Result) (d : List Byte) (s : State) :
    (sendReply h r d s).drive = s.drive := rfl
@[simp] theorem sendReply_peers (h : CommandHeader) (r : Result) (d : List Byte) (s : State) :
    (sendReply h r d s).peers = s.peers := rfl
@[simp] theorem sendReply_pending (h : CommandHeader) (r : Result) (d : List Byte) (s : State) :
    (sendReply h r d s).pending = s.pending := rfl
@[simp] theorem sendReply_bus_haltSlot (h : CommandHeader) (r : Result) (d : List Byte) (s : State) :
    (sendReply h r d s).bus.haltSlot = s.bus.haltSlot := rfl
@[simp] theorem sendReply_bus_paceSlot (h : CommandHeader) (r : Result) (d : List Byte) (s : State) :
    (sendReply h r d s).bus.paceSlot = s.bus.paceSlot := rfl
@[simp] theorem sendReply_bus_stateSlot (h : CommandHeader) (r : Result) (d : List Byte) (s : State) :
    (sendReply h r d s).bus.stateSlot = s.bus.stateSlot := rfl
@[simp] theorem sendReply_bus_echoErrors (h : CommandHeader) (r : Result) (d : List Byte) (s : State) :
    (sendReply h r d s).bus.echoErrors = s.bus.echoErrors := rfl
@[simp] theorem sendReply_bus_inHand (h : CommandHeader) (r : Result) (d : List Byte) (s : State) :
    (sendReply h r d s).bus.inHand = s.bus.inHand := rfl
@[simp] theorem sendReply_bus_stateTimer (h : CommandHeader) (r : Result) (d : List Byte) (s : State) :
    (sendReply h r d s).bus.stateTimer = s.bus.stateTimer := rfl
@[simp] theorem sendReply_bus_line (h : CommandHeader) (r : Result) (d : List Byte) (s : State) :
    (sendReply h r d s).bus.line = s.bus.line := rfl

/-- A reply joins at the queue's end (R154, R155). -/
@[simp] theorem sendReply_replies (h : CommandHeader) (r : Result) (d : List Byte) (s : State) :
    (sendReply h r d s).bus.replies =
      s.bus.replies ++ [{ requester := h.sender, tag := h.tag, result := r, data := d }] := rfl

@[simp] theorem hear_startup (a : Addr) (f : PeerEntry → PeerEntry) (s : State) :
    (hear a f s).startup = s.startup := by unfold hear; split <;> rfl
@[simp] theorem hear_nonvolatile (a : Addr) (f : PeerEntry → PeerEntry) (s : State) :
    (hear a f s).nonvolatile = s.nonvolatile := by unfold hear; split <;> rfl
@[simp] theorem hear_stopInput (a : Addr) (f : PeerEntry → PeerEntry) (s : State) :
    (hear a f s).stopInput = s.stopInput := by unfold hear; split <;> rfl
@[simp] theorem hear_marks (a : Addr) (f : PeerEntry → PeerEntry) (s : State) :
    (hear a f s).marks = s.marks := by unfold hear; split <;> rfl
@[simp] theorem hear_control (a : Addr) (f : PeerEntry → PeerEntry) (s : State) :
    (hear a f s).control = s.control := by unfold hear; split <;> rfl
@[simp] theorem hear_pace (a : Addr) (f : PeerEntry → PeerEntry) (s : State) :
    (hear a f s).pace = s.pace := by unfold hear; split <;> rfl
@[simp] theorem hear_live (a : Addr) (f : PeerEntry → PeerEntry) (s : State) :
    (hear a f s).live = s.live := by unfold hear; split <;> rfl
@[simp] theorem hear_blend (a : Addr) (f : PeerEntry → PeerEntry) (s : State) :
    (hear a f s).blend = s.blend := by unfold hear; split <;> rfl
@[simp] theorem hear_drive (a : Addr) (f : PeerEntry → PeerEntry) (s : State) :
    (hear a f s).drive = s.drive := by unfold hear; split <;> rfl
@[simp] theorem hear_bus (a : Addr) (f : PeerEntry → PeerEntry) (s : State) :
    (hear a f s).bus = s.bus := by unfold hear; split <;> rfl
@[simp] theorem hear_pending (a : Addr) (f : PeerEntry → PeerEntry) (s : State) :
    (hear a f s).pending = s.pending := by unfold hear; split <;> rfl

/-! ### Putting the node into an axis state -/

@[simp] theorem putState_startup (new : AxisState) (s : State) :
    (putState new s).startup = s.startup := rfl
@[simp] theorem putState_nonvolatile (new : AxisState) (s : State) :
    (putState new s).nonvolatile = s.nonvolatile := rfl
@[simp] theorem putState_stopInput (new : AxisState) (s : State) :
    (putState new s).stopInput = s.stopInput := rfl
@[simp] theorem putState_marks (new : AxisState) (s : State) :
    (putState new s).marks = s.marks := rfl
@[simp] theorem putState_peers (new : AxisState) (s : State) :
    (putState new s).peers = s.peers := rfl
@[simp] theorem putState_bus (new : AxisState) (s : State) :
    (putState new s).bus = s.bus := rfl
@[simp] theorem putState_pending (new : AxisState) (s : State) :
    (putState new s).pending = s.pending := rfl
@[simp] theorem putState_live_demand (new : AxisState) (s : State) :
    (putState new s).live.demand = s.live.demand := rfl
@[simp] theorem putState_live_dial (new : AxisState) (s : State) :
    (putState new s).live.dial = s.live.dial := rfl
@[simp] theorem putState_live_velocity (new : AxisState) (s : State) :
    (putState new s).live.velocity = s.live.velocity := rfl
@[simp] theorem putState_live_deflection (new : AxisState) (s : State) :
    (putState new s).live.deflection = s.live.deflection := rfl
@[simp] theorem putState_live_recentre (new : AxisState) (s : State) :
    (putState new s).live.recentre = s.live.recentre := rfl
@[simp] theorem putState_live_grabTimer (new : AxisState) (s : State) :
    (putState new s).live.grabTimer = s.live.grabTimer := rfl
@[simp] theorem putState_drive_seq (new : AxisState) (s : State) :
    (putState new s).drive.seq = s.drive.seq := rfl
@[simp] theorem putState_drive_exchange (new : AxisState) (s : State) :
    (putState new s).drive.exchange = s.drive.exchange := rfl
@[simp] theorem putState_drive_answer (new : AxisState) (s : State) :
    (putState new s).drive.answer = s.drive.answer := rfl
@[simp] theorem putState_drive_lastFeedback (new : AxisState) (s : State) :
    (putState new s).drive.lastFeedback = s.drive.lastFeedback := rfl
@[simp] theorem putState_drive_missed (new : AxisState) (s : State) :
    (putState new s).drive.missed = s.drive.missed := rfl
@[simp] theorem putState_drive_following (new : AxisState) (s : State) :
    (putState new s).drive.following = s.drive.following := rfl
@[simp] theorem putState_drive_captured (new : AxisState) (s : State) :
    (putState new s).drive.captured = s.drive.captured := rfl
@[simp] theorem putState_drive_enable (new : AxisState) (s : State) :
    (putState new s).drive.enable = s.drive.enable := rfl
@[simp] theorem putState_drive_permanent (new : AxisState) (s : State) :
    (putState new s).drive.permanent = s.drive.permanent := rfl
@[simp] theorem putState_drive_clashAge (new : AxisState) (s : State) :
    (putState new s).drive.clashAge = s.drive.clashAge := rfl
@[simp] theorem putState_drive_linkIntact (new : AxisState) (s : State) :
    (putState new s).drive.linkIntact = s.drive.linkIntact := rfl
@[simp] theorem putState_drive_linkAwaited (new : AxisState) (s : State) :
    (putState new s).drive.linkAwaited = s.drive.linkAwaited := rfl
@[simp] theorem putState_drive_sent (new : AxisState) (s : State) :
    (putState new s).drive.sent = s.drive.sent := rfl
@[simp] theorem putState_control_cueResult (new : AxisState) (s : State) :
    (putState new s).control.cueResult = s.control.cueResult := rfl

@[simp] theorem putState_blend_timer (new : AxisState) (s : State) :
    (putState new s).blend.timer = s.blend.timer := by unfold putState; dsimp only; split <;> rfl
@[simp] theorem putState_blend_live (new : AxisState) (s : State) :
    (putState new s).blend.live = s.blend.live := by unfold putState; dsimp only; split <;> rfl
@[simp] theorem putState_blend_history (new : AxisState) (s : State) :
    (putState new s).blend.history = s.blend.history := by unfold putState; dsimp only; split <;> rfl
@[simp] theorem putState_blend_limited (new : AxisState) (s : State) :
    (putState new s).blend.limited = s.blend.limited := by unfold putState; dsimp only; split <;> rfl
@[simp] theorem putState_blend_aStep (new : AxisState) (s : State) :
    (putState new s).blend.aStep = s.blend.aStep := by unfold putState; dsimp only; split <;> rfl
@[simp] theorem putState_blend_weightStep (new : AxisState) (s : State) :
    (putState new s).blend.weightStep = s.blend.weightStep := by unfold putState; dsimp only; split <;> rfl

@[simp] theorem putState_pace_ownNeed (new : AxisState) (s : State) :
    (putState new s).pace.ownNeed = s.pace.ownNeed := by unfold putState; dsimp only; split <;> rfl
@[simp] theorem putState_pace_veff (new : AxisState) (s : State) :
    (putState new s).pace.veff = s.pace.veff := by unfold putState; dsimp only; split <;> rfl
@[simp] theorem putState_pace_dialPace (new : AxisState) (s : State) :
    (putState new s).pace.dialPace = s.pace.dialPace := by unfold putState; dsimp only; split <;> rfl

@[simp] theorem putState_control (new : AxisState) (s : State) :
    (putState new s).control = keepRecords new s.control := rfl

@[simp] theorem keepRecords_axisState (new : AxisState) (c : RunControl) :
    (keepRecords new c).axisState = new := rfl

@[simp] theorem keepRecords_run (new : AxisState) (c : RunControl) :
    (keepRecords new c).run = if hasRun new then c.run else none := rfl

@[simp] theorem keepRecords_arm (new : AxisState) (c : RunControl) :
    (keepRecords new c).arm = if working new then c.arm else none := rfl

@[simp] theorem keepRecords_stack (new : AxisState) (c : RunControl) :
    (keepRecords new c).stack = if keepsStack new then c.stack else [] := rfl

@[simp] theorem keepRecords_cueResult (new : AxisState) (c : RunControl) :
    (keepRecords new c).cueResult = c.cueResult := rfl

@[simp] theorem keepRecords_haltCause (new : AxisState) (c : RunControl) :
    (keepRecords new c).haltCause = if new = .halted then c.haltCause else none := rfl

@[simp] theorem keepRecords_holdCause (new : AxisState) (c : RunControl) :
    (keepRecords new c).holdCause = if new = .holding then c.holdCause else none := rfl

@[simp] theorem keepRecords_settle (new : AxisState) (c : RunControl) :
    (keepRecords new c).settle = if new = .waking then c.settle else none := rfl

@[simp] theorem putState_faultCause (new : AxisState) (s : State) :
    (putState new s).drive.faultCause = if new = .fault then s.drive.faultCause else none := rfl

theorem putState_pace (new : AxisState) (s : State) :
    (putState new s).pace = if sendsPace new then s.pace else dropPace s.pace := rfl

theorem putState_blend (new : AxisState) (s : State) :
    (putState new s).blend = if hasRun new then s.blend else dropMix s.blend := rfl

@[simp] theorem putState_weight (new : AxisState) (s : State) :
    (putState new s).blend.weight = if hasRun new then s.blend.weight else 0 := by
  rw [putState_blend]; split <;> rfl

@[simp] theorem putState_weightTarget (new : AxisState) (s : State) :
    (putState new s).blend.weightTarget = if hasRun new then s.blend.weightTarget else 0 := by
  rw [putState_blend]; split <;> rfl

@[simp] theorem putState_trim (new : AxisState) (s : State) :
    (putState new s).blend.trim = if hasRun new then s.blend.trim else 0 := by
  rw [putState_blend]; split <;> rfl

@[simp] theorem putState_applied (new : AxisState) (s : State) :
    (putState new s).pace.applied = if sendsPace new then s.pace.applied else 0 := by
  rw [putState_pace]; split <;> rfl

@[simp] theorem putState_target (new : AxisState) (s : State) :
    (putState new s).pace.target = if sendsPace new then s.pace.target else 0 := by
  rw [putState_pace]; split <;> rfl

@[simp] theorem putState_counted (new : AxisState) (s : State) :
    (putState new s).pace.counted = if sendsPace new then s.pace.counted else [] := by
  rw [putState_pace]; split <;> rfl

@[simp] theorem putState_remainder (new : AxisState) (s : State) :
    (putState new s).live.remainder = if clearsRemainder new then 0 else s.live.remainder := rfl

end Sys2Proof.Machine
end

