-- ==== Sys2Proof/Laws/Ops.lean ====
section
/-! SUPPORT. What the shared operations can do, field by field: queueing frames, the interlock, changing the axis
state. The provers cite these and unfold none of them. -/

namespace Sys2Proof.Machine

/-! ### Queueing frames -/

@[simp] theorem queueHalt_startup (c : FaultCause) (s : State) :
    (queueHalt c s).startup = s.startup := by unfold queueHalt; split <;> rfl
@[simp] theorem queueHalt_nonvolatile (c : FaultCause) (s : State) :
    (queueHalt c s).nonvolatile = s.nonvolatile := by unfold queueHalt; split <;> rfl
@[simp] theorem queueHalt_stopInput (c : FaultCause) (s : State) :
    (queueHalt c s).stopInput = s.stopInput := by unfold queueHalt; split <;> rfl
@[simp] theorem queueHalt_marks (c : FaultCause) (s : State) :
    (queueHalt c s).marks = s.marks := by unfold queueHalt; split <;> rfl
@[simp] theorem queueHalt_control (c : FaultCause) (s : State) :
    (queueHalt c s).control = s.control := by unfold queueHalt; split <;> rfl
@[simp] theorem queueHalt_pace (c : FaultCause) (s : State) :
    (queueHalt c s).pace = s.pace := by unfold queueHalt; split <;> rfl
@[simp] theorem queueHalt_live (c : FaultCause) (s : State) :
    (queueHalt c s).live = s.live := by unfold queueHalt; split <;> rfl
@[simp] theorem queueHalt_blend (c : FaultCause) (s : State) :
    (queueHalt c s).blend = s.blend := by unfold queueHalt; split <;> rfl
@[simp] theorem queueHalt_drive (c : FaultCause) (s : State) :
    (queueHalt c s).drive = s.drive := by unfold queueHalt; split <;> rfl
@[simp] theorem queueHalt_peers (c : FaultCause) (s : State) :
    (queueHalt c s).peers = s.peers := by unfold queueHalt; split <;> rfl
@[simp] theorem queueHalt_pending (c : FaultCause) (s : State) :
    (queueHalt c s).pending = s.pending := by unfold queueHalt; split <;> rfl
@[simp] theorem queueHalt_bus_paceSlot (c : FaultCause) (s : State) :
    (queueHalt c s).bus.paceSlot = s.bus.paceSlot := by unfold queueHalt; split <;> rfl
@[simp] theorem queueHalt_bus_stateSlot (c : FaultCause) (s : State) :
    (queueHalt c s).bus.stateSlot = s.bus.stateSlot := by unfold queueHalt; split <;> rfl
@[simp] theorem queueHalt_bus_replies (c : FaultCause) (s : State) :
    (queueHalt c s).bus.replies = s.bus.replies := by unfold queueHalt; split <;> rfl
@[simp] theorem queueHalt_bus_echoErrors (c : FaultCause) (s : State) :
    (queueHalt c s).bus.echoErrors = s.bus.echoErrors := by unfold queueHalt; split <;> rfl
@[simp] theorem queueHalt_bus_stateTimer (c : FaultCause) (s : State) :
    (queueHalt c s).bus.stateTimer = s.bus.stateTimer := by unfold queueHalt; split <;> rfl
@[simp] theorem queueHalt_bus_line (c : FaultCause) (s : State) :
    (queueHalt c s).bus.line = s.bus.line := by unfold queueHalt; split <;> rfl

@[simp] theorem queueState_startup (s : State) :
    (queueState s).startup = s.startup := by unfold queueState; split <;> rfl
@[simp] theorem queueState_nonvolatile (s : State) :
    (queueState s).nonvolatile = s.nonvolatile := by unfold queueState; split <;> rfl
@[simp] theorem queueState_stopInput (s : State) :
    (queueState s).stopInput = s.stopInput := by unfold queueState; split <;> rfl
@[simp] theorem queueState_marks (s : State) :
    (queueState s).marks = s.marks := by unfold queueState; split <;> rfl
@[simp] theorem queueState_control (s : State) :
    (queueState s).control = s.control := by unfold queueState; split <;> rfl
@[simp] theorem queueState_pace (s : State) :
    (queueState s).pace = s.pace := by unfold queueState; split <;> rfl
@[simp] theorem queueState_live (s : State) :
    (queueState s).live = s.live := by unfold queueState; split <;> rfl
@[simp] theorem queueState_blend (s : State) :
    (queueState s).blend = s.blend := by unfold queueState; split <;> rfl
@[simp] theorem queueState_drive (s : State) :
    (queueState s).drive = s.drive := by unfold queueState; split <;> rfl
@[simp] theorem queueState_peers (s : State) :
    (queueState s).peers = s.peers := by unfold queueState; split <;> rfl
@[simp] theorem queueState_pending (s : State) :
    (queueState s).pending = s.pending := by unfold queueState; split <;> rfl
@[simp] theorem queueState_bus_haltSlot (s : State) :
    (queueState s).bus.haltSlot = s.bus.haltSlot := by unfold queueState; split <;> rfl
@[simp] theorem queueState_bus_paceSlot (s : State) :
    (queueState s).bus.paceSlot = s.bus.paceSlot := by unfold queueState; split <;> rfl
@[simp] theorem queueState_bus_replies (s : State) :
    (queueState s).bus.replies = s.bus.replies := by unfold queueState; split <;> rfl
@[simp] theorem queueState_bus_echoErrors (s : State) :
    (queueState s).bus.echoErrors = s.bus.echoErrors := by unfold queueState; split <;> rfl
@[simp] theorem queueState_bus_line (s : State) :
    (queueState s).bus.line = s.bus.line := by unfold queueState; split <;> rfl

@[simp] theorem sendPace_startup (n : Nat) (s : State) :
    (sendPace n s).startup = s.startup := by unfold sendPace; split <;> rfl
@[simp] theorem sendPace_nonvolatile (n : Nat) (s : State) :
    (sendPace n s).nonvolatile = s.nonvolatile := by unfold sendPace; split <;> rfl
@[simp] theorem sendPace_stopInput (n : Nat) (s : State) :
    (sendPace n s).stopInput = s.stopInput := by unfold sendPace; split <;> rfl
@[simp] theorem sendPace_marks (n : Nat) (s : State) :
    (sendPace n s).marks = s.marks := by unfold sendPace; split <;> rfl
@[simp] theorem sendPace_control (n : Nat) (s : State) :
    (sendPace n s).control = s.control := by unfold sendPace; split <;> rfl
@[simp] theorem sendPace_live (n : Nat) (s : State) :
    (sendPace n s).live = s.live := by unfold sendPace; split <;> rfl
@[simp] theorem sendPace_blend (n : Nat) (s : State) :
    (sendPace n s).blend = s.blend := by unfold sendPace; split <;> rfl
@[simp] theorem sendPace_drive (n : Nat) (s : State) :
    (sendPace n s).drive = s.drive := by unfold sendPace; split <;> rfl
@[simp] theorem sendPace_peers (n : Nat) (s : State) :
    (sendPace n s).peers = s.peers := by unfold sendPace; split <;> rfl
@[simp] theorem sendPace_pending (n : Nat) (s : State) :
    (sendPace n s).pending = s.pending := by unfold sendPace; split <;> rfl
@[simp] theorem sendPace_pace_veff (n : Nat) (s : State) :
    (sendPace n s).pace.veff = s.pace.veff := by unfold sendPace; split <;> rfl
@[simp] theorem sendPace_pace_dialPace (n : Nat) (s : State) :
    (sendPace n s).pace.dialPace = s.pace.dialPace := by unfold sendPace; split <;> rfl
@[simp] theorem sendPace_pace_target (n : Nat) (s : State) :
    (sendPace n s).pace.target = s.pace.target := by unfold sendPace; split <;> rfl
@[simp] theorem sendPace_pace_applied (n : Nat) (s : State) :
    (sendPace n s).pace.applied = s.pace.applied := by unfold sendPace; split <;> rfl
@[simp] theorem sendPace_pace_counted (n : Nat) (s : State) :
    (sendPace n s).pace.counted = s.pace.counted := by unfold sendPace; split <;> rfl
@[simp] theorem sendPace_bus_haltSlot (n : Nat) (s : State) :
    (sendPace n s).bus.haltSlot = s.bus.haltSlot := by unfold sendPace; split <;> rfl
@[simp] theorem sendPace_bus_stateSlot (n : Nat) (s : State) :
    (sendPace n s).bus.stateSlot = s.bus.stateSlot := by unfold sendPace; split <;> rfl
@[simp] theorem sendPace_bus_replies (n : Nat) (s : State) :
    (sendPace n s).bus.replies = s.bus.replies := by unfold sendPace; split <;> rfl
@[simp] theorem sendPace_bus_echoErrors (n : Nat) (s : State) :
    (sendPace n s).bus.echoErrors = s.bus.echoErrors := by unfold sendPace; split <;> rfl
@[simp] theorem sendPace_bus_stateTimer (n : Nat) (s : State) :
    (sendPace n s).bus.stateTimer = s.bus.stateTimer := by unfold sendPace; split <;> rfl
@[simp] theorem sendPace_bus_line (n : Nat) (s : State) :
    (sendPace n s).bus.line = s.bus.line := by unfold sendPace; split <;> rfl

@[simp] theorem queuePace_startup (s : State) :
    (queuePace s).startup = s.startup := by unfold queuePace; simp
@[simp] theorem queuePace_nonvolatile (s : State) :
    (queuePace s).nonvolatile = s.nonvolatile := by unfold queuePace; simp
@[simp] theorem queuePace_stopInput (s : State) :
    (queuePace s).stopInput = s.stopInput := by unfold queuePace; simp
@[simp] theorem queuePace_marks (s : State) :
    (queuePace s).marks = s.marks := by unfold queuePace; simp
@[simp] theorem queuePace_control (s : State) :
    (queuePace s).control = s.control := by unfold queuePace; simp
@[simp] theorem queuePace_live (s : State) :
    (queuePace s).live = s.live := by unfold queuePace; simp
@[simp] theorem queuePace_blend (s : State) :
    (queuePace s).blend = s.blend := by unfold queuePace; simp
@[simp] theorem queuePace_drive (s : State) :
    (queuePace s).drive = s.drive := by unfold queuePace; simp
@[simp] theorem queuePace_peers (s : State) :
    (queuePace s).peers = s.peers := by unfold queuePace; simp
@[simp] theorem queuePace_pending (s : State) :
    (queuePace s).pending = s.pending := by unfold queuePace; simp
@[simp] theorem queuePace_pace_veff (s : State) :
    (queuePace s).pace.veff = s.pace.veff := by unfold queuePace; simp
@[simp] theorem queuePace_pace_dialPace (s : State) :
    (queuePace s).pace.dialPace = s.pace.dialPace := by unfold queuePace; simp
@[simp] theorem queuePace_pace_target (s : State) :
    (queuePace s).pace.target = s.pace.target := by unfold queuePace; simp
@[simp] theorem queuePace_pace_applied (s : State) :
    (queuePace s).pace.applied = s.pace.applied := by unfold queuePace; simp
@[simp] theorem queuePace_pace_counted (s : State) :
    (queuePace s).pace.counted = s.pace.counted := by unfold queuePace; simp
@[simp] theorem queuePace_bus_haltSlot (s : State) :
    (queuePace s).bus.haltSlot = s.bus.haltSlot := by unfold queuePace; simp
@[simp] theorem queuePace_bus_stateSlot (s : State) :
    (queuePace s).bus.stateSlot = s.bus.stateSlot := by unfold queuePace; simp
@[simp] theorem queuePace_bus_replies (s : State) :
    (queuePace s).bus.replies = s.bus.replies := by unfold queuePace; simp
@[simp] theorem queuePace_bus_echoErrors (s : State) :
    (queuePace s).bus.echoErrors = s.bus.echoErrors := by unfold queuePace; simp
@[simp] theorem queuePace_bus_stateTimer (s : State) :
    (queuePace s).bus.stateTimer = s.bus.stateTimer := by unfold queuePace; simp
@[simp] theorem queuePace_bus_line (s : State) :
    (queuePace s).bus.line = s.bus.line := by unfold queuePace; simp

/-! ### The grab timer and the interlock -/

@[simp] theorem refreshGrab_startup (s : State) :
    (refreshGrab s).startup = s.startup := rfl
@[simp] theorem refreshGrab_nonvolatile (s : State) :
    (refreshGrab s).nonvolatile = s.nonvolatile := rfl
@[simp] theorem refreshGrab_stopInput (s : State) :
    (refreshGrab s).stopInput = s.stopInput := rfl
@[simp] theorem refreshGrab_marks (s : State) :
    (refreshGrab s).marks = s.marks := rfl
@[simp] theorem refreshGrab_control (s : State) :
    (refreshGrab s).control = s.control := rfl
@[simp] theorem refreshGrab_pace (s : State) :
    (refreshGrab s).pace = s.pace := rfl
@[simp] theorem refreshGrab_blend (s : State) :
    (refreshGrab s).blend = s.blend := rfl
@[simp] theorem refreshGrab_drive (s : State) :
    (refreshGrab s).drive = s.drive := rfl
@[simp] theorem refreshGrab_peers (s : State) :
    (refreshGrab s).peers = s.peers := rfl
@[simp] theorem refreshGrab_bus (s : State) :
    (refreshGrab s).bus = s.bus := rfl
@[simp] theorem refreshGrab_pending (s : State) :
    (refreshGrab s).pending = s.pending := rfl
@[simp] theorem refreshGrab_live_demand (s : State) :
    (refreshGrab s).live.demand = s.live.demand := rfl
@[simp] theorem refreshGrab_live_dial (s : State) :
    (refreshGrab s).live.dial = s.live.dial := rfl
@[simp] theorem refreshGrab_live_velocity (s : State) :
    (refreshGrab s).live.velocity = s.live.velocity := rfl
@[simp] theorem refreshGrab_live_deflection (s : State) :
    (refreshGrab s).live.deflection = s.live.deflection := rfl
@[simp] theorem refreshGrab_live_recentre (s : State) :
    (refreshGrab s).live.recentre = s.live.recentre := rfl
@[simp] theorem refreshGrab_live_remainder (s : State) :
    (refreshGrab s).live.remainder = s.live.remainder := rfl

@[simp] theorem setRecentre_startup (s : State) :
    (setRecentre s).startup = s.startup := rfl
@[simp] theorem setRecentre_nonvolatile (s : State) :
    (setRecentre s).nonvolatile = s.nonvolatile := rfl
@[simp] theorem setRecentre_stopInput (s : State) :
    (setRecentre s).stopInput = s.stopInput := rfl
@[simp] theorem setRecentre_marks (s : State) :
    (setRecentre s).marks = s.marks := rfl
@[simp] theorem setRecentre_control (s : State) :
    (setRecentre s).control = s.control := rfl
@[simp] theorem setRecentre_pace (s : State) :
    (setRecentre s).pace = s.pace := rfl
@[simp] theorem setRecentre_blend (s : State) :
    (setRecentre s).blend = s.blend := rfl
@[simp] theorem setRecentre_drive (s : State) :
    (setRecentre s).drive = s.drive := rfl
@[simp] theorem setRecentre_peers (s : State) :
    (setRecentre s).peers = s.peers := rfl
@[simp] theorem setRecentre_bus (s : State) :
    (setRecentre s).bus = s.bus := rfl
@[simp] theorem setRecentre_pending (s : State) :
    (setRecentre s).pending = s.pending := rfl
@[simp] theorem setRecentre_live_demand (s : State) :
    (setRecentre s).live.demand = s.live.demand := rfl
@[simp] theorem setRecentre_live_dial (s : State) :
    (setRecentre s).live.dial = s.live.dial := rfl
@[simp] theorem setRecentre_live_deflection (s : State) :
    (setRecentre s).live.deflection = s.live.deflection := rfl

@[simp] theorem setRecentre_recentre (s : State) : (setRecentre s).live.recentre = true := rfl

@[simp] theorem setRecentre_velocity (s : State) : (setRecentre s).live.velocity = 0 := rfl

@[simp] theorem setRecentre_remainder (s : State) : (setRecentre s).live.remainder = 0 := rfl

/-! ### Telling the rig of a change of state -/

@[simp] theorem announce_startup (old : AxisState) (s : State) :
    (announce old s).startup = s.startup := by
  unfold announce; dsimp only; split
  · rfl
  · split <;> simp
@[simp] theorem announce_nonvolatile (old : AxisState) (s : State) :
    (announce old s).nonvolatile = s.nonvolatile := by
  unfold announce; dsimp only; split
  · rfl
  · split <;> simp
@[simp] theorem announce_stopInput (old : AxisState) (s : State) :
    (announce old s).stopInput = s.stopInput := by
  unfold announce; dsimp only; split
  · rfl
  · split <;> simp
@[simp] theorem announce_marks (old : AxisState) (s : State) :
    (announce old s).marks = s.marks := by
  unfold announce; dsimp only; split
  · rfl
  · split <;> simp
@[simp] theorem announce_control (old : AxisState) (s : State) :
    (announce old s).control = s.control := by
  unfold announce; dsimp only; split
  · rfl
  · split <;> simp
@[simp] theorem announce_live (old : AxisState) (s : State) :
    (announce old s).live = s.live := by
  unfold announce; dsimp only; split
  · rfl
  · split <;> simp
@[simp] theorem announce_blend (old : AxisState) (s : State) :
    (announce old s).blend = s.blend := by
  unfold announce; dsimp only; split
  · rfl
  · split <;> simp
@[simp] theorem announce_drive (old : AxisState) (s : State) :
    (announce old s).drive = s.drive := by
  unfold announce; dsimp only; split
  · rfl
  · split <;> simp
@[simp] theorem announce_peers (old : AxisState) (s : State) :
    (announce old s).peers = s.peers := by
  unfold announce; dsimp only; split
  · rfl
  · split <;> simp
@[simp] theorem announce_pending (old : AxisState) (s : State) :
    (announce old s).pending = s.pending := by
  unfold announce; dsimp only; split
  · rfl
  · split <;> simp
@[simp] theorem announce_pace_veff (old : AxisState) (s : State) :
    (announce old s).pace.veff = s.pace.veff := by
  unfold announce; dsimp only; split
  · rfl
  · split <;> simp
@[simp] theorem announce_pace_dialPace (old : AxisState) (s : State) :
    (announce old s).pace.dialPace = s.pace.dialPace := by
  unfold announce; dsimp only; split
  · rfl
  · split <;> simp
@[simp] theorem announce_pace_target (old : AxisState) (s : State) :
    (announce old s).pace.target = s.pace.target := by
  unfold announce; dsimp only; split
  · rfl
  · split <;> simp
@[simp] theorem announce_pace_applied (old : AxisState) (s : State) :
    (announce old s).pace.applied = s.pace.applied := by
  unfold announce; dsimp only; split
  · rfl
  · split <;> simp
@[simp] theorem announce_pace_counted (old : AxisState) (s : State) :
    (announce old s).pace.counted = s.pace.counted := by
  unfold announce; dsimp only; split
  · rfl
  · split <;> simp
@[simp] theorem announce_bus_haltSlot (old : AxisState) (s : State) :
    (announce old s).bus.haltSlot = s.bus.haltSlot := by
  unfold announce; dsimp only; split
  · rfl
  · split <;> simp
@[simp] theorem announce_bus_replies (old : AxisState) (s : State) :
    (announce old s).bus.replies = s.bus.replies := by
  unfold announce; dsimp only; split
  · rfl
  · split <;> simp
@[simp] theorem announce_bus_echoErrors (old : AxisState) (s : State) :
    (announce old s).bus.echoErrors = s.bus.echoErrors := by
  unfold announce; dsimp only; split
  · rfl
  · split <;> simp
@[simp] theorem announce_bus_line (old : AxisState) (s : State) :
    (announce old s).bus.line = s.bus.line := by
  unfold announce; dsimp only; split
  · rfl
  · split <;> simp

/-! ### Changing the axis state -/

@[simp] theorem changeState_startup (new : AxisState) (s : State) :
    (changeState new s).startup = s.startup := by simp [changeState]
@[simp] theorem changeState_nonvolatile (new : AxisState) (s : State) :
    (changeState new s).nonvolatile = s.nonvolatile := by simp [changeState]
@[simp] theorem changeState_stopInput (new : AxisState) (s : State) :
    (changeState new s).stopInput = s.stopInput := by simp [changeState]
@[simp] theorem changeState_marks (new : AxisState) (s : State) :
    (changeState new s).marks = s.marks := by simp [changeState]
@[simp] theorem changeState_peers (new : AxisState) (s : State) :
    (changeState new s).peers = s.peers := by simp [changeState]
@[simp] theorem changeState_pending (new : AxisState) (s : State) :
    (changeState new s).pending = s.pending := by simp [changeState]
@[simp] theorem changeState_live_demand (new : AxisState) (s : State) :
    (changeState new s).live.demand = s.live.demand := by simp [changeState]
@[simp] theorem changeState_live_dial (new : AxisState) (s : State) :
    (changeState new s).live.dial = s.live.dial := by simp [changeState]
@[simp] theorem changeState_live_velocity (new : AxisState) (s : State) :
    (changeState new s).live.velocity = s.live.velocity := by simp [changeState]
@[simp] theorem changeState_live_deflection (new : AxisState) (s : State) :
    (changeState new s).live.deflection = s.live.deflection := by simp [changeState]
@[simp] theorem changeState_live_recentre (new : AxisState) (s : State) :
    (changeState new s).live.recentre = s.live.recentre := by simp [changeState]
@[simp] theorem changeState_drive_seq (new : AxisState) (s : State) :
    (changeState new s).drive.seq = s.drive.seq := by simp [changeState]
@[simp] theorem changeState_drive_exchange (new : AxisState) (s : State) :
    (changeState new s).drive.exchange = s.drive.exchange := by simp [changeState]
@[simp] theorem changeState_drive_answer (new : AxisState) (s : State) :
    (changeState new s).drive.answer = s.drive.answer := by simp [changeState]
@[simp] theorem changeState_drive_lastFeedback (new : AxisState) (s : State) :
    (changeState new s).drive.lastFeedback = s.drive.lastFeedback := by simp [changeState]
@[simp] theorem changeState_drive_missed (new : AxisState) (s : State) :
    (changeState new s).drive.missed = s.drive.missed := by simp [changeState]
@[simp] theorem changeState_drive_following (new : AxisState) (s : State) :
    (changeState new s).drive.following = s.drive.following := by simp [changeState]
@[simp] theorem changeState_drive_captured (new : AxisState) (s : State) :
    (changeState new s).drive.captured = s.drive.captured := by simp [changeState]
@[simp] theorem changeState_drive_enable (new : AxisState) (s : State) :
    (changeState new s).drive.enable = s.drive.enable := by simp [changeState]
@[simp] theorem changeState_drive_permanent (new : AxisState) (s : State) :
    (changeState new s).drive.permanent = s.drive.permanent := by simp [changeState]
@[simp] theorem changeState_drive_clashAge (new : AxisState) (s : State) :
    (changeState new s).drive.clashAge = s.drive.clashAge := by simp [changeState]
@[simp] theorem changeState_drive_linkIntact (new : AxisState) (s : State) :
    (changeState new s).drive.linkIntact = s.drive.linkIntact := by simp [changeState]
@[simp] theorem changeState_drive_linkAwaited (new : AxisState) (s : State) :
    (changeState new s).drive.linkAwaited = s.drive.linkAwaited := by simp [changeState]
@[simp] theorem changeState_drive_sent (new : AxisState) (s : State) :
    (changeState new s).drive.sent = s.drive.sent := by simp [changeState]
@[simp] theorem changeState_blend_timer (new : AxisState) (s : State) :
    (changeState new s).blend.timer = s.blend.timer := by simp [changeState]
@[simp] theorem changeState_blend_live (new : AxisState) (s : State) :
    (changeState new s).blend.live = s.blend.live := by simp [changeState]
@[simp] theorem changeState_blend_history (new : AxisState) (s : State) :
    (changeState new s).blend.history = s.blend.history := by simp [changeState]
@[simp] theorem changeState_blend_limited (new : AxisState) (s : State) :
    (changeState new s).blend.limited = s.blend.limited := by simp [changeState]
@[simp] theorem changeState_blend_aStep (new : AxisState) (s : State) :
    (changeState new s).blend.aStep = s.blend.aStep := by simp [changeState]
@[simp] theorem changeState_blend_weightStep (new : AxisState) (s : State) :
    (changeState new s).blend.weightStep = s.blend.weightStep := by simp [changeState]
@[simp] theorem changeState_bus_haltSlot (new : AxisState) (s : State) :
    (changeState new s).bus.haltSlot = s.bus.haltSlot := by simp [changeState]
@[simp] theorem changeState_bus_replies (new : AxisState) (s : State) :
    (changeState new s).bus.replies = s.bus.replies := by simp [changeState]
@[simp] theorem changeState_bus_echoErrors (new : AxisState) (s : State) :
    (changeState new s).bus.echoErrors = s.bus.echoErrors := by simp [changeState]
@[simp] theorem changeState_bus_line (new : AxisState) (s : State) :
    (changeState new s).bus.line = s.bus.line := by simp [changeState]
@[simp] theorem changeState_pace_veff (new : AxisState) (s : State) :
    (changeState new s).pace.veff = s.pace.veff := by simp [changeState]
@[simp] theorem changeState_pace_dialPace (new : AxisState) (s : State) :
    (changeState new s).pace.dialPace = s.pace.dialPace := by simp [changeState]
@[simp] theorem changeState_control_cueResult (new : AxisState) (s : State) :
    (changeState new s).control.cueResult = s.control.cueResult := by simp [changeState]

@[simp] theorem changeState_control (new : AxisState) (s : State) :
    (changeState new s).control = keepRecords new s.control := by simp [changeState]

@[simp] theorem changeState_weight (new : AxisState) (s : State) :
    (changeState new s).blend.weight = if hasRun new then s.blend.weight else 0 := by simp [changeState]

@[simp] theorem changeState_weightTarget (new : AxisState) (s : State) :
    (changeState new s).blend.weightTarget = if hasRun new then s.blend.weightTarget else 0 := by
  simp [changeState]

@[simp] theorem changeState_trim (new : AxisState) (s : State) :
    (changeState new s).blend.trim = if hasRun new then s.blend.trim else 0 := by simp [changeState]

/-- The blend engine keeps its mix in a state with a run and drops it in any other (R32, R115, R117). -/
theorem changeState_blend (new : AxisState) (s : State) :
    (changeState new s).blend = if hasRun new then s.blend else dropMix s.blend := by
  simp [changeState, putState_blend]

@[simp] theorem changeState_faultCause (new : AxisState) (s : State) :
    (changeState new s).drive.faultCause = if new = .fault then s.drive.faultCause else none := by
  simp [changeState]

@[simp] theorem changeState_remainder (new : AxisState) (s : State) :
    (changeState new s).live.remainder = if clearsRemainder new then 0 else s.live.remainder := by
  simp [changeState]

@[simp] theorem changeState_applied (new : AxisState) (s : State) :
    (changeState new s).pace.applied = if sendsPace new then s.pace.applied else 0 := by simp [changeState]

@[simp] theorem changeState_target (new : AxisState) (s : State) :
    (changeState new s).pace.target = if sendsPace new then s.pace.target else 0 := by simp [changeState]

@[simp] theorem changeState_counted (new : AxisState) (s : State) :
    (changeState new s).pace.counted = if sendsPace new then s.pace.counted else [] := by
  simp [changeState]

/-! ### HALTED, and the stop input on the way into a working state -/

@[simp] theorem haltNode_startup (c : Cause) (s : State) :
    (haltNode c s).startup = s.startup := by simp [haltNode]
@[simp] theorem haltNode_nonvolatile (c : Cause) (s : State) :
    (haltNode c s).nonvolatile = s.nonvolatile := by simp [haltNode]
@[simp] theorem haltNode_stopInput (c : Cause) (s : State) :
    (haltNode c s).stopInput = s.stopInput := by simp [haltNode]
@[simp] theorem haltNode_marks (c : Cause) (s : State) :
    (haltNode c s).marks = s.marks := by simp [haltNode]
@[simp] theorem haltNode_peers (c : Cause) (s : State) :
    (haltNode c s).peers = s.peers := by simp [haltNode]
@[simp] theorem haltNode_pending (c : Cause) (s : State) :
    (haltNode c s).pending = s.pending := by simp [haltNode]
@[simp] theorem haltNode_live_demand (c : Cause) (s : State) :
    (haltNode c s).live.demand = s.live.demand := by simp [haltNode]
@[simp] theorem haltNode_live_dial (c : Cause) (s : State) :
    (haltNode c s).live.dial = s.live.dial := by simp [haltNode]
@[simp] theorem haltNode_live_velocity (c : Cause) (s : State) :
    (haltNode c s).live.velocity = s.live.velocity := by simp [haltNode]
@[simp] theorem haltNode_live_deflection (c : Cause) (s : State) :
    (haltNode c s).live.deflection = s.live.deflection := by simp [haltNode]
@[simp] theorem haltNode_live_recentre (c : Cause) (s : State) :
    (haltNode c s).live.recentre = s.live.recentre := by simp [haltNode]
@[simp] theorem haltNode_drive_seq (c : Cause) (s : State) :
    (haltNode c s).drive.seq = s.drive.seq := by simp [haltNode]
@[simp] theorem haltNode_drive_exchange (c : Cause) (s : State) :
    (haltNode c s).drive.exchange = s.drive.exchange := by simp [haltNode]
@[simp] theorem haltNode_drive_answer (c : Cause) (s : State) :
    (haltNode c s).drive.answer = s.drive.answer := by simp [haltNode]
@[simp] theorem haltNode_drive_lastFeedback (c : Cause) (s : State) :
    (haltNode c s).drive.lastFeedback = s.drive.lastFeedback := by simp [haltNode]
@[simp] theorem haltNode_drive_missed (c : Cause) (s : State) :
    (haltNode c s).drive.missed = s.drive.missed := by simp [haltNode]
@[simp] theorem haltNode_drive_following (c : Cause) (s : State) :
    (haltNode c s).drive.following = s.drive.following := by simp [haltNode]
@[simp] theorem haltNode_drive_captured (c : Cause) (s : State) :
    (haltNode c s).drive.captured = s.drive.captured := by simp [haltNode]
@[simp] theorem haltNode_drive_enable (c : Cause) (s : State) :
    (haltNode c s).drive.enable = s.drive.enable := by simp [haltNode]
@[simp] theorem haltNode_drive_permanent (c : Cause) (s : State) :
    (haltNode c s).drive.permanent = s.drive.permanent := by simp [haltNode]
@[simp] theorem haltNode_drive_clashAge (c : Cause) (s : State) :
    (haltNode c s).drive.clashAge = s.drive.clashAge := by simp [haltNode]
@[simp] theorem haltNode_drive_linkIntact (c : Cause) (s : State) :
    (haltNode c s).drive.linkIntact = s.drive.linkIntact := by simp [haltNode]
@[simp] theorem haltNode_drive_linkAwaited (c : Cause) (s : State) :
    (haltNode c s).drive.linkAwaited = s.drive.linkAwaited := by simp [haltNode]
@[simp] theorem haltNode_drive_sent (c : Cause) (s : State) :
    (haltNode c s).drive.sent = s.drive.sent := by simp [haltNode]
@[simp] theorem haltNode_blend_timer (c : Cause) (s : State) :
    (haltNode c s).blend.timer = s.blend.timer := by simp [haltNode]
@[simp] theorem haltNode_blend_live (c : Cause) (s : State) :
    (haltNode c s).blend.live = s.blend.live := by simp [haltNode]
@[simp] theorem haltNode_blend_history (c : Cause) (s : State) :
    (haltNode c s).blend.history = s.blend.history := by simp [haltNode]
@[simp] theorem haltNode_blend_limited (c : Cause) (s : State) :
    (haltNode c s).blend.limited = s.blend.limited := by simp [haltNode]
@[simp] theorem haltNode_blend_aStep (c : Cause) (s : State) :
    (haltNode c s).blend.aStep = s.blend.aStep := by simp [haltNode]
@[simp] theorem haltNode_blend_weightStep (c : Cause) (s : State) :
    (haltNode c s).blend.weightStep = s.blend.weightStep := by simp [haltNode]
@[simp] theorem haltNode_bus_haltSlot (c : Cause) (s : State) :
    (haltNode c s).bus.haltSlot = s.bus.haltSlot := by simp [haltNode]
@[simp] theorem haltNode_bus_replies (c : Cause) (s : State) :
    (haltNode c s).bus.replies = s.bus.replies := by simp [haltNode]
@[simp] theorem haltNode_bus_echoErrors (c : Cause) (s : State) :
    (haltNode c s).bus.echoErrors = s.bus.echoErrors := by simp [haltNode]
@[simp] theorem haltNode_bus_line (c : Cause) (s : State) :
    (haltNode c s).bus.line = s.bus.line := by simp [haltNode]
@[simp] theorem haltNode_pace_veff (c : Cause) (s : State) :
    (haltNode c s).pace.veff = s.pace.veff := by simp [haltNode]
@[simp] theorem haltNode_pace_dialPace (c : Cause) (s : State) :
    (haltNode c s).pace.dialPace = s.pace.dialPace := by simp [haltNode]
@[simp] theorem haltNode_control_cueResult (c : Cause) (s : State) :
    (haltNode c s).control.cueResult = s.control.cueResult := by simp [haltNode]

/-- HALTED holds a halt cause and no run, arm or stack (R21, R32). -/
@[simp] theorem haltNode_control (c : Cause) (s : State) :
    (haltNode c s).control = { keepRecords .halted s.control with haltCause := some c } := by
  simp [haltNode, keepRecords]

@[simp] theorem haltNode_weight (c : Cause) (s : State) : (haltNode c s).blend.weight = 0 := by
  simp [haltNode, hasRun]

@[simp] theorem haltNode_weightTarget (c : Cause) (s : State) :
    (haltNode c s).blend.weightTarget = 0 := by simp [haltNode, hasRun]

@[simp] theorem haltNode_trim (c : Cause) (s : State) : (haltNode c s).blend.trim = 0 := by
  simp [haltNode, hasRun]

/-- Entry into HALTED makes the weight, its target and the trim 0 (R32). -/
theorem haltNode_blend (c : Cause) (s : State) : (haltNode c s).blend = dropMix s.blend := by
  simp [haltNode, changeState_blend, hasRun]

@[simp] theorem haltNode_faultCause (c : Cause) (s : State) : (haltNode c s).drive.faultCause = none := by
  simp [haltNode]

@[simp] theorem haltNode_applied (c : Cause) (s : State) : (haltNode c s).pace.applied = 0 := by
  simp [haltNode, sendsPace]

/-- With the stop input active nothing more happens on entry into a state (R139). -/
theorem readStop_active (old : AxisState) (s : State) (h : s.stopInput = true) : readStop old s = s := by
  simp [readStop, h]

/-- Reading the stop input either changes nothing or halts the node (R32, R139). -/
theorem readStop_cases (old : AxisState) (s : State) :
    readStop old s = s ∨ (s.stopInput = false ∧ working s.control.axisState = true ∧
      s.control.axisState ≠ old ∧ readStop old s = haltNode .stopInput s) := by
  unfold readStop
  split
  · rename_i h
    simp only [Bool.and_eq_true, bne_iff_ne, ne_eq, Bool.not_eq_true'] at h
    exact .inr ⟨h.2, h.1.1, h.1.2, rfl⟩
  · exact .inl rfl

/-- Entering a state with the stop input active is the change of state and no more. -/
theorem enterState_active (new : AxisState) (s : State) (h : s.stopInput = true) :
    enterState new s = changeState new s := readStop_active _ _ (by simpa using h)

/-- Entering a state is the change of state, or a halt by the stop input after it. -/
theorem enterState_cases (new : AxisState) (s : State) :
    enterState new s = changeState new s ∨ (s.stopInput = false ∧ working new = true ∧
      enterState new s = haltNode .stopInput (changeState new s)) := by
  rcases readStop_cases s.control.axisState (changeState new s) with h | ⟨h1, h2, -, h4⟩
  · exact .inl h
  · exact .inr ⟨by simpa using h1, by simpa using h2, h4⟩

@[simp] theorem readStop_startup (old : AxisState) (s : State) :
    (readStop old s).startup = s.startup := by
  unfold readStop; split <;> simp
@[simp] theorem readStop_nonvolatile (old : AxisState) (s : State) :
    (readStop old s).nonvolatile = s.nonvolatile := by
  unfold readStop; split <;> simp
@[simp] theorem readStop_stopInput (old : AxisState) (s : State) :
    (readStop old s).stopInput = s.stopInput := by
  unfold readStop; split <;> simp
@[simp] theorem readStop_marks (old : AxisState) (s : State) :
    (readStop old s).marks = s.marks := by
  unfold readStop; split <;> simp
@[simp] theorem readStop_peers (old : AxisState) (s : State) :
    (readStop old s).peers = s.peers := by
  unfold readStop; split <;> simp
@[simp] theorem readStop_pending (old : AxisState) (s : State) :
    (readStop old s).pending = s.pending := by
  unfold readStop; split <;> simp
@[simp] theorem readStop_live_demand (old : AxisState) (s : State) :
    (readStop old s).live.demand = s.live.demand := by
  unfold readStop; split <;> simp
@[simp] theorem readStop_live_dial (old : AxisState) (s : State) :
    (readStop old s).live.dial = s.live.dial := by
  unfold readStop; split <;> simp
@[simp] theorem readStop_live_velocity (old : AxisState) (s : State) :
    (readStop old s).live.velocity = s.live.velocity := by
  unfold readStop; split <;> simp
@[simp] theorem readStop_live_deflection (old : AxisState) (s : State) :
    (readStop old s).live.deflection = s.live.deflection := by
  unfold readStop; split <;> simp
@[simp] theorem readStop_live_recentre (old : AxisState) (s : State) :
    (readStop old s).live.recentre = s.live.recentre := by
  unfold readStop; split <;> simp
@[simp] theorem readStop_drive_seq (old : AxisState) (s : State) :
    (readStop old s).drive.seq = s.drive.seq := by
  unfold readStop; split <;> simp
@[simp] theorem readStop_drive_exchange (old : AxisState) (s : State) :
    (readStop old s).drive.exchange = s.drive.exchange := by
  unfold readStop; split <;> simp
@[simp] theorem readStop_drive_answer (old : AxisState) (s : State) :
    (readStop old s).drive.answer = s.drive.answer := by
  unfold readStop; split <;> simp
@[simp] theorem readStop_drive_lastFeedback (old : AxisState) (s : State) :
    (readStop old s).drive.lastFeedback = s.drive.lastFeedback := by
  unfold readStop; split <;> simp
@[simp] theorem readStop_drive_missed (old : AxisState) (s : State) :
    (readStop old s).drive.missed = s.drive.missed := by
  unfold readStop; split <;> simp
@[simp] theorem readStop_drive_following (old : AxisState) (s : State) :
    (readStop old s).drive.following = s.drive.following := by
  unfold readStop; split <;> simp
@[simp] theorem readStop_drive_captured (old : AxisState) (s : State) :
    (readStop old s).drive.captured = s.drive.captured := by
  unfold readStop; split <;> simp
@[simp] theorem readStop_drive_enable (old : AxisState) (s : State) :
    (readStop old s).drive.enable = s.drive.enable := by
  unfold readStop; split <;> simp
@[simp] theorem readStop_drive_permanent (old : AxisState) (s : State) :
    (readStop old s).drive.permanent = s.drive.permanent := by
  unfold readStop; split <;> simp
@[simp] theorem readStop_drive_clashAge (old : AxisState) (s : State) :
    (readStop old s).drive.clashAge = s.drive.clashAge := by
  unfold readStop; split <;> simp
@[simp] theorem readStop_drive_linkIntact (old : AxisState) (s : State) :
    (readStop old s).drive.linkIntact = s.drive.linkIntact := by
  unfold readStop; split <;> simp
@[simp] theorem readStop_drive_linkAwaited (old : AxisState) (s : State) :
    (readStop old s).drive.linkAwaited = s.drive.linkAwaited := by
  unfold readStop; split <;> simp
@[simp] theorem readStop_drive_sent (old : AxisState) (s : State) :
    (readStop old s).drive.sent = s.drive.sent := by
  unfold readStop; split <;> simp
@[simp] theorem readStop_blend_timer (old : AxisState) (s : State) :
    (readStop old s).blend.timer = s.blend.timer := by
  unfold readStop; split <;> simp
@[simp] theorem readStop_blend_live (old : AxisState) (s : State) :
    (readStop old s).blend.live = s.blend.live := by
  unfold readStop; split <;> simp
@[simp] theorem readStop_blend_history (old : AxisState) (s : State) :
    (readStop old s).blend.history = s.blend.history := by
  unfold readStop; split <;> simp
@[simp] theorem readStop_blend_limited (old : AxisState) (s : State) :
    (readStop old s).blend.limited = s.blend.limited := by
  unfold readStop; split <;> simp
@[simp] theorem readStop_blend_aStep (old : AxisState) (s : State) :
    (readStop old s).blend.aStep = s.blend.aStep := by
  unfold readStop; split <;> simp
@[simp] theorem readStop_blend_weightStep (old : AxisState) (s : State) :
    (readStop old s).blend.weightStep = s.blend.weightStep := by
  unfold readStop; split <;> simp
@[simp] theorem readStop_bus_haltSlot (old : AxisState) (s : State) :
    (readStop old s).bus.haltSlot = s.bus.haltSlot := by
  unfold readStop; split <;> simp
@[simp] theorem readStop_bus_replies (old : AxisState) (s : State) :
    (readStop old s).bus.replies = s.bus.replies := by
  unfold readStop; split <;> simp
@[simp] theorem readStop_bus_echoErrors (old : AxisState) (s : State) :
    (readStop old s).bus.echoErrors = s.bus.echoErrors := by
  unfold readStop; split <;> simp
@[simp] theorem readStop_bus_line (old : AxisState) (s : State) :
    (readStop old s).bus.line = s.bus.line := by
  unfold readStop; split <;> simp
@[simp] theorem readStop_pace_veff (old : AxisState) (s : State) :
    (readStop old s).pace.veff = s.pace.veff := by
  unfold readStop; split <;> simp
@[simp] theorem readStop_pace_dialPace (old : AxisState) (s : State) :
    (readStop old s).pace.dialPace = s.pace.dialPace := by
  unfold readStop; split <;> simp
@[simp] theorem readStop_control_cueResult (old : AxisState) (s : State) :
    (readStop old s).control.cueResult = s.control.cueResult := by
  unfold readStop; split <;> simp

@[simp] theorem enterState_startup (new : AxisState) (s : State) :
    (enterState new s).startup = s.startup := by simp [enterState]
@[simp] theorem enterState_nonvolatile (new : AxisState) (s : State) :
    (enterState new s).nonvolatile = s.nonvolatile := by simp [enterState]
@[simp] theorem enterState_stopInput (new : AxisState) (s : State) :
    (enterState new s).stopInput = s.stopInput := by simp [enterState]
@[simp] theorem enterState_marks (new : AxisState) (s : State) :
    (enterState new s).marks = s.marks := by simp [enterState]
@[simp] theorem enterState_peers (new : AxisState) (s : State) :
    (enterState new s).peers = s.peers := by simp [enterState]
@[simp] theorem enterState_pending (new : AxisState) (s : State) :
    (enterState new s).pending = s.pending := by simp [enterState]
@[simp] theorem enterState_live_demand (new : AxisState) (s : State) :
    (enterState new s).live.demand = s.live.demand := by simp [enterState]
@[simp] theorem enterState_live_dial (new : AxisState) (s : State) :
    (enterState new s).live.dial = s.live.dial := by simp [enterState]
@[simp] theorem enterState_live_velocity (new : AxisState) (s : State) :
    (enterState new s).live.velocity = s.live.velocity := by simp [enterState]
@[simp] theorem enterState_live_deflection (new : AxisState) (s : State) :
    (enterState new s).live.deflection = s.live.deflection := by simp [enterState]
@[simp] theorem enterState_live_recentre (new : AxisState) (s : State) :
    (enterState new s).live.recentre = s.live.recentre := by simp [enterState]
@[simp] theorem enterState_drive_seq (new : AxisState) (s : State) :
    (enterState new s).drive.seq = s.drive.seq := by simp [enterState]
@[simp] theorem enterState_drive_exchange (new : AxisState) (s : State) :
    (enterState new s).drive.exchange = s.drive.exchange := by simp [enterState]
@[simp] theorem enterState_drive_answer (new : AxisState) (s : State) :
    (enterState new s).drive.answer = s.drive.answer := by simp [enterState]
@[simp] theorem enterState_drive_lastFeedback (new : AxisState) (s : State) :
    (enterState new s).drive.lastFeedback = s.drive.lastFeedback := by simp [enterState]
@[simp] theorem enterState_drive_missed (new : AxisState) (s : State) :
    (enterState new s).drive.missed = s.drive.missed := by simp [enterState]
@[simp] theorem enterState_drive_following (new : AxisState) (s : State) :
    (enterState new s).drive.following = s.drive.following := by simp [enterState]
@[simp] theorem enterState_drive_captured (new : AxisState) (s : State) :
    (enterState new s).drive.captured = s.drive.captured := by simp [enterState]
@[simp] theorem enterState_drive_enable (new : AxisState) (s : State) :
    (enterState new s).drive.enable = s.drive.enable := by simp [enterState]
@[simp] theorem enterState_drive_permanent (new : AxisState) (s : State) :
    (enterState new s).drive.permanent = s.drive.permanent := by simp [enterState]
@[simp] theorem enterState_drive_clashAge (new : AxisState) (s : State) :
    (enterState new s).drive.clashAge = s.drive.clashAge := by simp [enterState]
@[simp] theorem enterState_drive_linkIntact (new : AxisState) (s : State) :
    (enterState new s).drive.linkIntact = s.drive.linkIntact := by simp [enterState]
@[simp] theorem enterState_drive_linkAwaited (new : AxisState) (s : State) :
    (enterState new s).drive.linkAwaited = s.drive.linkAwaited := by simp [enterState]
@[simp] theorem enterState_drive_sent (new : AxisState) (s : State) :
    (enterState new s).drive.sent = s.drive.sent := by simp [enterState]
@[simp] theorem enterState_blend_timer (new : AxisState) (s : State) :
    (enterState new s).blend.timer = s.blend.timer := by simp [enterState]
@[simp] theorem enterState_blend_live (new : AxisState) (s : State) :
    (enterState new s).blend.live = s.blend.live := by simp [enterState]
@[simp] theorem enterState_blend_history (new : AxisState) (s : State) :
    (enterState new s).blend.history = s.blend.history := by simp [enterState]
@[simp] theorem enterState_blend_limited (new : AxisState) (s : State) :
    (enterState new s).blend.limited = s.blend.limited := by simp [enterState]
@[simp] theorem enterState_blend_aStep (new : AxisState) (s : State) :
    (enterState new s).blend.aStep = s.blend.aStep := by simp [enterState]
@[simp] theorem enterState_blend_weightStep (new : AxisState) (s : State) :
    (enterState new s).blend.weightStep = s.blend.weightStep := by simp [enterState]
@[simp] theorem enterState_bus_haltSlot (new : AxisState) (s : State) :
    (enterState new s).bus.haltSlot = s.bus.haltSlot := by simp [enterState]
@[simp] theorem enterState_bus_replies (new : AxisState) (s : State) :
    (enterState new s).bus.replies = s.bus.replies := by simp [enterState]
@[simp] theorem enterState_bus_echoErrors (new : AxisState) (s : State) :
    (enterState new s).bus.echoErrors = s.bus.echoErrors := by simp [enterState]
@[simp] theorem enterState_bus_line (new : AxisState) (s : State) :
    (enterState new s).bus.line = s.bus.line := by simp [enterState]
@[simp] theorem enterState_pace_veff (new : AxisState) (s : State) :
    (enterState new s).pace.veff = s.pace.veff := by simp [enterState]
@[simp] theorem enterState_pace_dialPace (new : AxisState) (s : State) :
    (enterState new s).pace.dialPace = s.pace.dialPace := by simp [enterState]
@[simp] theorem enterState_control_cueResult (new : AxisState) (s : State) :
    (enterState new s).control.cueResult = s.control.cueResult := by simp [enterState]

end Sys2Proof.Machine
end

