-- ==== Sys2Proof/Laws/Receive.lean ====
section
/-! SUPPORT. What a received frame and a COMMAND come to: one lemma for each way they can go. -/

namespace Sys2Proof.Machine

/-- A frame the node accepts is recorded and handled (R146, R173). -/
theorem receive_accepts {a : Addr} {s : State} (hA : Accepts a s) (f : PeerEntry → PeerEntry)
    (g : State → State) : receive a f g s = g (hear a f s) := by
  obtain ⟨h1, h2⟩ := hA
  rw [receive, if_neg (not_not_intro h1), if_neg (by tauto)]

/-- A frame that bears the node's own address is a clash and no more (R152). -/
theorem receive_own {s : State} (h1 : s.startup.phase = .running) (h2 : s.startup.address ≠ 0)
    (f : PeerEntry → PeerEntry) (g : State → State) :
    receive s.startup.address f g s = reportClash s := by
  rw [receive, if_neg (not_not_intro h1), if_pos ⟨rfl, h2⟩]

/-- Nothing is received in reset or while loading (R172). -/
theorem receive_early {s : State} (h : s.startup.phase ≠ .running) (a : Addr)
    (f : PeerEntry → PeerEntry) (g : State → State) : receive a f g s = s := by
  simp [receive, h]

/-- A command the node acts on, with room for its reply: the sender is recorded, and the reply is the table's of
R156 or the owner's (R154, R155, R156). -/
theorem command_taken {h : CommandHeader} {s : State} (hT : Taken h s) (k : CommandClass)
    (act : State → Answer) (hp : s.control.axisState ≠ .parked ∨ k = .wake) :
    command h k act s = match gate k s.control.axisState with
      | some r => sendReply h r [] (heardFrom h.sender s)
      | none =>
        let a := act (heardFrom h.sender s)
        sendReply h a.result a.data a.state := by
  obtain ⟨hA, h3, h4, h5, h6⟩ := hT
  have acts : actsOn h k (heardFrom h.sender s) = true := by
    simp only [actsOn, heardFrom, hear_startup, hear_drive, hear_control, h5, bne_iff_ne, beq_iff_eq,
      Bool.and_eq_true, Bool.or_eq_true]
    exact ⟨⟨⟨h3, h4⟩, rfl⟩, hp⟩
  have room : ¬ replyRoom ≤ (heardFrom h.sender s).bus.replies.length := by
    simp only [heardFrom, hear_bus]; omega
  have same : (heardFrom h.sender s).control = s.control := by simp [heardFrom]
  rw [command, receive_accepts hA]
  change answer h k act (heardFrom h.sender s) = _
  rcases hg : gate k s.control.axisState with _ | r <;> simp [answer, acts, room, same, hg]

/-- A running node's own event. -/
theorem whenRunning_running {s : State} (h : s.startup.phase = .running) (f : State → State) :
    whenRunning f s = f s := by simp [whenRunning, h]

/-! ### What recording a station leaves -/

theorem heardFrom_eq (a : Addr) (s : State) :
    heardFrom a s = { s with peers := (heardFrom a s).peers } := by
  unfold heardFrom hear; split <;> rfl

/-- The entry of an address after it was recorded: the change of what it was, or of a new entry (R146). -/
theorem peerAt_upsertPeer (a : Addr) (f : PeerEntry → PeerEntry) (hf : ∀ e, (f e).address = e.address)
    (l : List PeerEntry) (hl : l.Pairwise fun x y => x.address.toNat < y.address.toNat) :
    peerAt (upsertPeer a f l) a = some (f ((peerAt l a).getD (newEntry a))) := by
  induction l with
  | nil => simp [upsertPeer, peerAt, hf, newEntry]
  | cons e rest ih =>
    obtain ⟨h1, h2⟩ := List.pairwise_cons.mp hl
    simp only [upsertPeer]
    split
    · rename_i he; simp [peerAt, hf, he]
    · rename_i he
      split
      · rename_i hlt
        have none_left : ∀ x ∈ e :: rest, ¬ x.address = a := by
          intro x hx hxa
          rcases List.mem_cons.mp hx with rfl | hx
          · exact he hxa
          · have := h1 x hx; rw [hxa] at this; omega
        have : peerAt (e :: rest) a = none := by
          simp only [peerAt, List.find?_eq_none]; intro x hx; simpa using none_left x hx
        rw [this]; simp [peerAt, hf, newEntry]
      · have key := ih h2
        simp only [peerAt, List.find?_cons] at key ⊢
        have : (e.address == a) = false := by simpa using he
        rw [this]; exact key

/-- Recording one address leaves every other entry as it was (R146). -/
theorem peerAt_upsertPeer_other (a b : Addr) (hab : b ≠ a) (f : PeerEntry → PeerEntry)
    (hf : ∀ e, (f e).address = e.address) (l : List PeerEntry) :
    peerAt (upsertPeer a f l) b = peerAt l b := by
  have other : (a == b) = false := by simpa using Ne.symm hab
  induction l with
  | nil => simp [upsertPeer, peerAt, hf, newEntry, other]
  | cons e rest ih =>
    simp only [upsertPeer]
    split
    · rename_i he
      simp [peerAt, hf, he, other]
    · split
      · simp [peerAt, hf, newEntry, other]
      · simp only [peerAt, List.find?_cons] at ih ⊢
        split
        · rfl
        · exact ih

end Sys2Proof.Machine
end

