-- ==== Sys2Proof/Laws/Changes.lean ====
section
/-! SUPPORT. What a change of axis state comes to: one lemma for each kind of change the rules speak of. -/

namespace Sys2Proof.Machine

/-- Outside RUNNING and HOLDING no grab is timed (R108). -/
theorem refreshGrab_no_run {s : State} (h : s.control.axisState ≠ .running)
    (h' : s.control.axisState ≠ .holding) :
    refreshGrab s = { s with live := { s.live with grabTimer := none } } := by
  have : grabCondition s = false := by
    simp only [grabCondition, beq_false_of_ne h, beq_false_of_ne h', Bool.or_self, Bool.false_and]
  simp [refreshGrab, this]

/-- A STATE frame handed to its slot (R174). -/
theorem queueState_open {s : State} (h : s.drive.permanent = false) :
    queueState s = { s with bus := { s.bus with stateSlot := some (stateFrameOf s), inHand := noteReplaced .state s.bus.inHand, stateTimer := some 0 } } := by
  simp [queueState, h]

/-- A change into a state without a run: put, and told by a STATE frame alone (R174). -/
theorem changeState_no_run {new : AxisState} {s : State} (hn : s.control.axisState ≠ new)
    (hr : sendsPace new = false) :
    changeState new s = queueState { putState new s with live := { (putState new s).live with grabTimer := none } } := by
  have hput : (putState new s).control.axisState = new := rfl
  have hg : refreshGrab (putState new s) =
      { putState new s with live := { (putState new s).live with grabTimer := none } } := by
    apply refreshGrab_no_run <;> rw [hput] <;> rintro rfl <;> simp [sendsPace] at hr
  rw [changeState, hg]
  simp only [announce, hput, hr, Bool.and_false, Bool.false_eq_true, if_false, if_neg hn.symm]

/-- Halting (R32). -/
theorem haltNode_halts (cause : Cause) {s : State} (h : s.drive.permanent = false)
    (hn : s.control.axisState ≠ .halted) : HaltedFrom cause s (haltNode cause s) := by
  rw [haltNode, changeState_no_run (by exact hn) rfl, queueState_open (by exact h)]
  exact ⟨_, rfl, rfl, rfl⟩

/-- Faulting (R34, R140). -/
theorem enterFault_faults (cause : FaultCause) {s : State} (h : s.drive.permanent = false)
    (hn : s.control.axisState ≠ .fault) : FaultedFrom cause s (enterFault cause s) := by
  have he : (s.drive.enable && !enableOffCause cause) =
      if cause = .driveLost ∨ cause = .outOfRange then false else s.drive.enable := by
    cases cause <;> simp [enableOffCause]
  rw [enterFault, he, changeState_no_run (by exact hn) rfl, queueState_open (by exact h), queueHalt,
    if_neg (by simp [putState, h])]
  exact ⟨_, rfl, rfl, rfl⟩

/-- Into LIVE with the stop input active. -/
theorem enterLive_live {s : State} (h : s.drive.permanent = false) (ha : s.stopInput = true)
    (hn : s.control.axisState ≠ .live) : LiveFrom s (enterState .live s) := by
  rw [enterState_active _ _ ha, changeState_no_run hn rfl, queueState_open (by exact h)]
  exact ⟨_, rfl, rfl, rfl⟩

/-- Into LIVE at a setpoint with the interlock set (R25, R33, R107). -/
theorem enterLiveAt_live {s : State} (x : Int) (h : s.drive.permanent = false) (ha : s.stopInput = true)
    (hn : s.control.axisState ≠ .live) : LiveAt (some x) s (enterLiveAt x s) := by
  obtain ⟨f, h1, h2, h3⟩ := enterLive_live (s := setRecentre { s with blend.live := some x }) h ha hn
  exact ⟨f, h1, h2, h3⟩

/-- A fault report outside SETUP, PARKED and FAULT enters FAULT (R34, R140). -/
theorem reportFault_faults (cause : FaultCause) {s : State} (h : s.drive.permanent = false)
    (h1 : s.control.axisState ≠ .setup) (h2 : s.control.axisState ≠ .parked)
    (h3 : s.control.axisState ≠ .fault) : FaultedFrom cause s (reportFault cause s) := by
  have : reportFault cause s = enterFault cause s := by
    unfold reportFault; split <;> first | contradiction | rfl
  rw [this]; exact enterFault_faults cause h h3

/-- A change among the states that send PACE frames, into one with a run: told by both frames (R89, R174). -/
theorem changeState_among {new : AxisState} {s : State} (h : s.drive.permanent = false)
    (hs : sendsPace s.control.axisState = true) (hr : hasRun new = true)
    (hn : s.control.axisState ≠ new) :
    ChangedAmongRuns s (changeState new s) ∧ Announced (changeState new s) ∧
      (changeState new s).control = keepRecords new s.control := by
  have hp : sendsPace new = true := by revert hr; cases new <;> simp [hasRun, sendsPace]
  have hc : clearsRemainder new = false := by revert hr; cases new <;> simp [hasRun, clearsRemainder]
  have hf : new ≠ .fault := by rintro rfl; simp [hasRun] at hr
  have e : changeState new s = queuePace (queueState (refreshGrab (putState new s))) := by
    have hput : (refreshGrab (putState new s)).control.axisState = new := rfl
    simp only [changeState, announce, hput, hs, hp, Bool.and_self, if_true, if_neg hn.symm]
  rw [e, queuePace, sendPace, if_neg (by simp [h]), queueState_open (by exact h)]
  refine ⟨?_, ⟨⟨_, rfl, rfl, rfl⟩, ⟨_, rfl, rfl, rfl, rfl⟩⟩, rfl⟩
  simp only [ChangedAmongRuns, refreshGrab, putState, hp, hc, hr, if_true, if_neg hf, Bool.false_eq_true,
    if_false]

end Sys2Proof.Machine
end

