-- ==== Sys2Proof/Laws/Runs.lean ====
section
/-! SUPPORT. What run control's work on a run leaves as it was, said once for each operation: the stores, the pins,
the peer table, the queue, the drive link but for the fault cause, the setpoint history, the reply queue. -/

namespace Sys2Proof.Machine

/-- The part of the state that no arrival, cue or halt touches. -/
structure Steady where
  startup : Startup
  nonvolatile : Nonvolatile
  stopInput : Bool
  marks : MarkStore
  peers : List PeerEntry
  pending : List Instr
  demand : Option ChannelRecord
  dial : Option ChannelRecord
  deflection : Int
  drive : DriveLink
  timer : Option Nat
  history : Option History
  limited : Bool
  aStep : Nat
  weightStep : Nat
  haltSlot : Option FaultCause
  replies : List Reply
  echoErrors : Nat
  line : LineOutput
  veff : Option Nat
  dialPace : Nat

/-- The steady part of a state; of the drive link all but the fault cause. -/
def steady (s : State) : Steady :=
  { startup := s.startup, nonvolatile := s.nonvolatile, stopInput := s.stopInput, marks := s.marks,
    peers := s.peers, pending := s.pending, demand := s.live.demand, dial := s.live.dial,
    deflection := s.live.deflection, drive := { s.drive with faultCause := none },
    timer := s.blend.timer, history := s.blend.history, limited := s.blend.limited,
    aStep := s.blend.aStep, weightStep := s.blend.weightStep, haltSlot := s.bus.haltSlot,
    replies := s.bus.replies, echoErrors := s.bus.echoErrors, line := s.bus.line,
    veff := s.pace.veff, dialPace := s.pace.dialPace }

/-! ### The shared operations -/

@[simp] theorem steady_onSegment (f : Segment → Segment) (s : State) :
    steady (onSegment f s) = steady s := rfl

@[simp] theorem steady_freezePath (s : State) : steady (freezePath s) = steady s := rfl

@[simp] theorem steady_cueAnswer (r : CueResult) (s : State) : steady (cueAnswer r s) = steady s := rfl

@[simp] theorem steady_setRecentre (s : State) : steady (setRecentre s) = steady s := rfl

@[simp] theorem steady_queueState (s : State) : steady (queueState s) = steady s := by
  unfold queueState; split <;> rfl

@[simp] theorem steady_queuePace (s : State) : steady (queuePace s) = steady s := by
  unfold queuePace sendPace; split <;> rfl

@[simp] theorem steady_changeState (new : AxisState) (s : State) :
    steady (changeState new s) = steady s := by
  simp [steady, changeState]

@[simp] theorem steady_readStop (old : AxisState) (s : State) : steady (readStop old s) = steady s := by
  unfold readStop haltNode; split
  · rw [steady_changeState]; rfl
  · rfl

@[simp] theorem steady_enterState (new : AxisState) (s : State) :
    steady (enterState new s) = steady s := by
  rw [enterState, steady_readStop, steady_changeState]

@[simp] theorem steady_haltNode (c : Cause) (s : State) : steady (haltNode c s) = steady s := by
  rw [haltNode, steady_changeState]; rfl

@[simp] theorem steady_enterLiveAt (x : Int) (s : State) : steady (enterLiveAt x s) = steady s := by
  rw [enterLiveAt, steady_enterState]; rfl

/-! ### Arrival resolution -/

@[simp] theorem steady_beginSegment (g : Segment) (s : State) : steady (beginSegment g s) = steady s := by
  unfold beginSegment; dsimp only; split <;> simp

@[simp] theorem steady_waitAt (w : WaitPoint) (s : State) : steady (waitAt w s) = steady s := by
  simp [waitAt]

@[simp] theorem steady_releaseEnd (s : State) : steady (releaseEnd s) = steady s := by
  rw [releaseEnd, steady_enterState, steady_freezePath]; rfl

@[simp] theorem steady_latchEnd (s : State) : steady (latchEnd s) = steady s := by simp [latchEnd]

@[simp] theorem steady_stepEnd (m : Mark) (s : State) : steady (stepEnd m s) = steady s := by
  unfold stepEnd
  split
  · simp
  · split
    · simp
    · split <;> simp

@[simp] theorem steady_stepNext (m : Mark) (s : State) : steady (stepNext m s) = steady s := by
  unfold stepNext; split <;> simp

@[simp] theorem steady_stepLoop (n : MarkNo) (m : Mark) (s : State) :
    steady (stepLoop n m s) = steady s := by
  unfold stepLoop
  split
  · dsimp only
    split
    · rw [steady_beginSegment]; rfl
    · rw [steady_stepNext]; rfl
  · simp

@[simp] theorem steady_stepStop (n : MarkNo) (m : Mark) (s : State) :
    steady (stepStop n m s) = steady s := by
  unfold stepStop; split <;> simp

@[simp] theorem steady_stepDwell (n : MarkNo) (m : Mark) (d : Bool) (s : State) :
    steady (stepDwell n m d s) = steady s := by
  unfold stepDwell
  split
  · simp
  · dsimp only; split <;> simp

@[simp] theorem steady_handBack (s : State) : steady (handBack s) = steady s := by
  unfold handBack
  split
  · rfl
  · split
    · rfl
    · dsimp only
      have back (r : RunContext) : steady (queuePace { s with control.run := some r }) = steady s := by
        rw [steady_queuePace]; rfl
      split
      · exact back _
      · split
        · exact back _
        · split
          · rw [steady_stepLoop, steady_onSegment]; exact back _
          · rw [steady_waitAt]; exact back _
        · rw [steady_stepEnd]; exact back _

/-- Taking an arrival changes run control, the pace unit, the live part of the blend engine and the outbox alone
(R13 to R20). -/
@[simp] theorem steady_takeArrival (s : State) : steady (takeArrival s) = steady s := by
  unfold takeArrival
  split
  · rfl
  · dsimp only; split <;> simp

/-! ### Starting, returning, grabbing -/

@[simp] theorem steady_startRun (a : ArmRecord) (k : List RunContext) (s : State) :
    steady (startRun a k s) = steady s := by
  rw [startRun, steady_readStop, steady_queuePace, steady_changeState]; rfl

@[simp] theorem steady_popRun (d : Nat) (r : RunContext) (k : List RunContext) (s : State) :
    steady (popRun d r k s) = steady s := by
  rw [popRun, steady_readStop, steady_queuePace, steady_changeState]; rfl

@[simp] theorem steady_continueRun (s : State) : steady (continueRun s) = steady s := by
  unfold continueRun
  split
  · rfl
  · rw [steady_stepLoop, steady_onSegment]; rfl

@[simp] theorem steady_takeGrab (s : State) : steady (takeGrab s) = steady s := by
  unfold takeGrab
  split
  · rw [steady_enterState]; rfl
  · rw [steady_enterState]; rfl
  · rfl

@[simp] theorem steady_takeCountedLoss (s : State) : steady (takeCountedLoss s) = steady s := by
  unfold takeCountedLoss
  split
  · rw [steady_enterState]; rfl
  · rfl

end Sys2Proof.Machine
end

