-- ==== Sys2Proof/Laws/Time.lean ====
section
/-! SUPPORT. What one idle millisecond is made of: the ageing of every timer, and the events taken by the meanings of
their commands. -/

namespace Sys2Proof.Machine

/-- The ageing of the tick is the millisecond of the statements. -/
theorem ageAll_eq_oneMsLater (s : State) : ageAll s = oneMsLater s := by
  have older : ageRecord = olderRecord := by
    funext r
    cases h : r.value <;> simp [ageRecord, olderRecord, countUp, ageCeiling, h]
  unfold ageAll ageClocks ageStores ageHeard ageControl
  rw [older]
  rfl

/-- An event of a running node whose command does `f` is taken by `f` where it has fallen due. -/
theorem takeWhenDue_eq {s : State} {event : Instr} {f : State → State}
    (h : exec event s = .next (whenRunning f s)) (hr : s.startup.phase = .running) :
    takeWhenDue s event = if fallenDue s event then f s else s := by
  simp [takeWhenDue, h, whenRunning_running hr]

end Sys2Proof.Machine
end

