-- ==== Sys2Proof/Laws/Update.lean ====
section
/-! SUPPORT. What an update leaves as it was, stage by stage. -/

namespace Sys2Proof.Machine

/-- The part of the state that no update touches. -/
structure Standing where
  startup : Startup
  nonvolatile : Nonvolatile
  stopInput : Bool
  marks : MarkStore
  peers : List PeerEntry
  pending : List Instr
  demand : Option ChannelRecord
  dial : Option ChannelRecord
  deflection : Int
  replies : List Reply
  echoErrors : Nat
  line : LineOutput

/-- The standing part of a state. -/
def standing (s : State) : Standing :=
  { startup := s.startup, nonvolatile := s.nonvolatile, stopInput := s.stopInput, marks := s.marks,
    peers := s.peers, pending := s.pending, demand := s.live.demand, dial := s.live.dial,
    deflection := s.live.deflection, replies := s.bus.replies, echoErrors := s.bus.echoErrors,
    line := s.bus.line }

/-- The standing part is a part of the steady one. -/
def Steady.standing (p : Steady) : Standing :=
  { startup := p.startup, nonvolatile := p.nonvolatile, stopInput := p.stopInput, marks := p.marks,
    peers := p.peers, pending := p.pending, demand := p.demand, dial := p.dial,
    deflection := p.deflection, replies := p.replies, echoErrors := p.echoErrors, line := p.line }

/-- What keeps the steady part keeps the standing one. -/
theorem standing_of_steady {a b : State} (h : steady a = steady b) : standing a = standing b :=
  congrArg Steady.standing h

/-! ### Faults -/

@[simp] theorem standing_queueHalt (c : FaultCause) (s : State) : standing (queueHalt c s) = standing s := by
  unfold queueHalt; split <;> rfl

@[simp] theorem standing_changeState (new : AxisState) (s : State) :
    standing (changeState new s) = standing s := standing_of_steady (by simp)

@[simp] theorem standing_enterState (new : AxisState) (s : State) :
    standing (enterState new s) = standing s := standing_of_steady (by simp)

@[simp] theorem standing_enterLiveAt (x : Int) (s : State) : standing (enterLiveAt x s) = standing s :=
  standing_of_steady (by simp)

@[simp] theorem standing_reportInFault (c : FaultCause) (s : State) :
    standing (reportInFault c s) = standing s := by
  unfold reportInFault
  split
  · split
    · rfl
    · rfl
    · rfl
    · split <;> rfl
    · rfl
    · rfl
  all_goals rfl

/-- A fault changes the states of the blocks, not the stores, the table of peers or what has been received. -/
@[simp] theorem standing_reportFault (c : FaultCause) (s : State) :
    standing (reportFault c s) = standing s := by
  unfold reportFault
  split
  · rfl
  · rfl
  · simp
  · rw [enterFault, standing_queueHalt, standing_changeState]; rfl

@[simp] theorem standing_reportDrive (c : FaultCause) (s : State) :
    standing (reportDrive c s) = standing s := by
  unfold reportDrive; split <;> simp

/-! ### The stages -/

@[simp] theorem standing_paceWork (c : Configuration) (s : State) : standing (paceWork c s) = standing s := rfl

@[simp] theorem standing_pathStage (c : Configuration) (s : State) :
    standing (pathStage c s).1 = standing s := by
  have adv (r : RunContext) : standing (advancePath c r s).1 = standing s := by
    unfold advancePath; dsimp only
    split
    · exact standing_of_steady (by rw [steady_takeArrival]; rfl)
    · rfl
  unfold pathStage
  split
  · rfl
  · split
    · exact adv _
    · exact adv _
    · rfl
    · split
      · rfl
      · exact adv _
    · rfl

@[simp] theorem standing_paceCheck (s : State) : standing (paceCheck s) = standing s := by
  unfold paceCheck sendPace
  split
  · split <;> rfl
  · rfl

@[simp] theorem standing_liveStage (c : Configuration) (s : State) :
    standing (liveStage c s).1 = standing s := by
  unfold liveStage; dsimp only
  split
  · rfl
  · rfl
  · split <;> rfl

@[simp] theorem standing_mixedUpdate (c : Configuration) (p : Option Int) (h : History) (s : State) :
    standing (mixedUpdate c p h s).state = standing s := by
  unfold mixedUpdate takeSetpoint; dsimp only; split <;> rfl

@[simp] theorem standing_stoppedUpdate (c : Configuration) (s : State) :
    standing (stoppedUpdate c s).state = standing s := by
  unfold stoppedUpdate takeSetpoint; split <;> rfl

@[simp] theorem standing_mixStage (c : Configuration) (p : Option Int) (l : Bool) (s : State) :
    standing (mixStage c p l s).state = standing s := by
  have mixed : standing (match s.blend.history with
      | some h => mixedUpdate c p h { s with blend.limited := l }
      | none => { state := { s with blend.limited := l }, pair := none, atRest := false,
                  weightAtZero := false }).state = standing s := by
    split
    · rw [standing_mixedUpdate]; rfl
    · rfl
  have stopped : standing (stoppedUpdate c { s with blend.limited := false }).state = standing s := by
    rw [standing_stoppedUpdate]; rfl
  unfold mixStage
  split
  · exact mixed
  · exact mixed
  · exact mixed
  · exact mixed
  · exact mixed
  · exact mixed
  · exact stopped
  · exact stopped
  · dsimp only; split <;> rfl
  · rfl
  · rfl

@[simp] theorem standing_closeExchange (c : Configuration) (s : State) :
    standing (closeExchange c s) = standing s := by
  unfold closeExchange
  dsimp only
  split
  · rw [standing_reportDrive]; split
    · rw [standing_reportDrive]; rfl
    · rfl
  · split
    · rw [standing_reportDrive]; rfl
    · rfl

/-- A close that trips no check changes the counts and the exchange alone (R134, R137, R138). -/
theorem closeExchange_quiet {c : Configuration} {s : State}
    (hm : (closedCounts c s.drive).1 = missedLimit → s.drive.missed = missedLimit)
    (hf : (closedCounts c s.drive).2 = followingLimit → s.drive.following = followingLimit) :
    closeExchange c s = { s with drive := { s.drive with
      missed := (closedCounts c s.drive).1, following := (closedCounts c s.drive).2, exchange := none } } := by
  have lost : ((closedCounts c s.drive).1 == missedLimit && s.drive.missed != missedLimit) = false := by
    by_cases h : (closedCounts c s.drive).1 = missedLimit <;> simp [h, hm]
  have lagging : ((closedCounts c s.drive).2 == followingLimit && s.drive.following != followingLimit) = false := by
    by_cases h : (closedCounts c s.drive).2 = followingLimit <;> simp [h, hf]
  simp [closeExchange, lost, lagging]

/-- One record goes out under the present number, and opens the exchange (R132). -/
theorem sendRecord_opens (p : Option (Int × Int)) (s : State) :
    ∃ x r, sendRecord p s = { s with drive := { s.drive with seq := s.drive.seq + 1, answer := none, exchange := some ⟨s.drive.seq, x⟩, sent := some r } } := by
  unfold sendRecord; dsimp only
  split
  · exact ⟨_, _, rfl⟩
  · exact ⟨_, _, rfl⟩

@[simp] theorem standing_sendRecord (p : Option (Int × Int)) (s : State) :
    standing (sendRecord p s) = standing s := by
  unfold sendRecord; dsimp only; split <;> rfl

@[simp] theorem standing_takeReports (m : MixResult) (s : State) :
    standing (takeReports m s) = standing s := by
  unfold takeReports
  split
  · split <;> simp
  · split <;> simp
  · rfl

/-- An update touches no store, no peer entry, no received demand and no reply (R112). -/
@[simp] theorem standing_update (s : State) : standing (update s) = standing s := by
  unfold update
  split
  · simp only [runUpdate, exchangeStage, standing_takeReports, standing_sendRecord,
      standing_closeExchange, standing_mixStage, standing_liveStage, standing_paceCheck,
      standing_pathStage, standing_paceWork]
    rfl
  · rfl

end Sys2Proof.Machine
end

