-- ==== Sys2Proof/WellFormed.lean ====
section
/-! DEFINITION. Which commands a frame can carry. The types bound every numeric field already; what is
left is the number of argument bytes (R154) and reply data bytes, and the codes that have a row of their
own. -/

namespace Sys2Proof

/-- A COMMAND frame carries at most five argument bytes (R154, R176). -/
abbrev argumentsFit (args : List Byte) : Prop := args.length ≤ 5

/-- The command codes R176 lists are 1 to 12. -/
abbrev commandCodeListed (code : Byte) : Prop := 1 ≤ code.toNat ∧ code.toNat ≤ 12

/-- The verb codes R176 lists are 0 to 5. -/
abbrev verbCodeListed (verb : Byte) : Prop := verb.toNat ≤ 5

/-- A term is a command that a frame or an event can bring. -/
def Instr.wellFormed : Instr → Bool
  | .replyFrame _ _ _ _ data => decide (data.length ≤ 5)
  | .markOpen _ args => decide (argumentsFit args)
  | .markSet _ args => decide (argumentsFit args)
  | .markClose _ args => decide (argumentsFit args)
  | .markErase _ args => decide (argumentsFit args)
  | .markRead _ args => decide (argumentsFit args)
  | .save _ args => decide (argumentsFit args)
  | .park _ args => decide (argumentsFit args)
  | .wake _ args => decide (argumentsFit args)
  | .clear _ args => decide (argumentsFit args)
  | .peerRead _ args => decide (argumentsFit args)
  | .configSet _ args => decide (argumentsFit args)
  | .configDone _ args => decide (argumentsFit args)
  | .unknownCommand _ code args => decide (argumentsFit args ∧ ¬ commandCodeListed code)
  | .cueUnknownVerb _ verb _ => decide (¬ verbCodeListed verb)
  | .reset | .resetRelease _ _ | .loadingEnd | .update | .paceInterval | .driveLost | .following
  | .feedbackRecord _ _ _ | .stopInputChange _ | .settleTimerExpiry | .armExpiry | .demandStale
  | .channelRelease _ | .grab | .peerLost _ | .leaseExpiry | .saveSlotWriteEnd | .configWriteEnd
  | .stateInterval | .haltFrame _ _ | .arm _ _ _ | .go _ _ _ | .hold _ _ | .resume _ _ | .abort _ _
  | .returnCue _ _ _ | .demandFrame _ _ | .paceFrame _ _ | .stateFrame _ _ | .poll _ _
  | .frameSendStart | .lostContention | .echoError | .frameDrop | .frameSentIntact => true

end Sys2Proof
end

