-- ==== Sys2Proof/Tests/Slice0.lean ====
section
/-! SUPPORT. Tests on small states: ill-formed terms, frames written out by hand from R167 and R176, and
the worked examples of the chapters. The source of every expected result stands beside it. -/

namespace Sys2Proof.Machine.Tests

set_option Elab.async false

/-! ### WellFormed refuses what no frame carries -/

def someone : CommandHeader := { sender := 9, target := 3, tag := 0x55 }

def sixBytes : List Byte := [0, 0, 0, 0, 0, 0]

theorem test_wf_reply : (Instr.replyFrame 9 3 0 0 sixBytes).wellFormed = false := by decide
theorem test_wf_markOpen : (Instr.markOpen someone sixBytes).wellFormed = false := by decide
theorem test_wf_markSet : (Instr.markSet someone sixBytes).wellFormed = false := by decide
theorem test_wf_markClose : (Instr.markClose someone sixBytes).wellFormed = false := by decide
theorem test_wf_markErase : (Instr.markErase someone sixBytes).wellFormed = false := by decide
theorem test_wf_markRead : (Instr.markRead someone sixBytes).wellFormed = false := by decide
theorem test_wf_save : (Instr.save someone sixBytes).wellFormed = false := by decide
theorem test_wf_park : (Instr.park someone sixBytes).wellFormed = false := by decide
theorem test_wf_wake : (Instr.wake someone sixBytes).wellFormed = false := by decide
theorem test_wf_clear : (Instr.clear someone sixBytes).wellFormed = false := by decide
theorem test_wf_peerRead : (Instr.peerRead someone sixBytes).wellFormed = false := by decide
theorem test_wf_configSet : (Instr.configSet someone sixBytes).wellFormed = false := by decide
theorem test_wf_configDone : (Instr.configDone someone sixBytes).wellFormed = false := by decide
theorem test_wf_unknown_args : (Instr.unknownCommand someone 13 sixBytes).wellFormed = false := by decide
theorem test_wf_unknown_listed : (Instr.unknownCommand someone 12 []).wellFormed = false := by decide
theorem test_wf_unknown_ok : (Instr.unknownCommand someone 13 []).wellFormed = true := by decide
theorem test_wf_verb_listed : (Instr.cueUnknownVerb 9 5 0).wellFormed = false := by decide
theorem test_wf_verb_ok : (Instr.cueUnknownVerb 9 6 0).wellFormed = true := by decide

/-! ### Frames written out from R167 and R176 -/

/-- A frame from the station at address 9 with a right check. -/
def frameOf (kind : BitVec 3) (payload : List Byte) : RawFrame :=
  let identifier := kind ++ (9 : Addr)
  let length := BitVec.ofNat 4 payload.length
  { identifier, length, payload, check := frameCheck identifier length payload }

/-- Kind 0 from address 9 is identifier 09H; cause 7 is OPERATOR. -/
theorem test_decode_halt : decodeFrame (frameOf 0 [7]) = some (.haltFrame 9 7) := by decide +kernel

theorem test_identifier : (frameOf 5 []).identifier = 0xA9#8 := by decide +kernel

/-- ARM of cue 5 from mark 10. -/
theorem test_decode_arm : decodeFrame (frameOf 1 [0, 5, 10, 0, 0, 0]) = some (.arm 9 5 10) := by decide +kernel

/-- GO with nest of cue 8; the bits beside the nest bit are ignored. -/
theorem test_decode_go : decodeFrame (frameOf 1 [1, 8, 0, 0xFF, 0, 0]) = some (.go 9 8 true) := by decide +kernel

/-- RETURN with a duration of 1500 ms, 05DCH. -/
theorem test_decode_return :
    decodeFrame (frameOf 1 [5, 0, 0, 0, 0x05, 0xDC]) = some (.returnCue 9 0 1500) := by decide +kernel

theorem test_decode_unknown_verb :
    decodeFrame (frameOf 1 [6, 5, 0, 0, 0, 0]) = some (.cueUnknownVerb 9 6 5) := by decide +kernel

/-- DEMAND for base channel 20 with the deadman set: 1200, −500, 0. -/
theorem test_decode_demand : decodeFrame (frameOf 2 [0x94, 0x04, 0xB0, 0xFE, 0x0C, 0, 0]) =
    some (.demandFrame 9 { base := 20, deadman := true, value0 := 1200, value1 := BitVec.ofInt 16 (-500),
                           value2 := 0 }) := by decide +kernel

/-- PACE: need 758, 02F6H, cue 7, running and limited, to mark 20. -/
theorem test_decode_pace : decodeFrame (frameOf 3 [0x02, 0xF6, 7, 0x12, 20]) =
    some (.paceFrame 9 { need := 758, cue := 7, armed := false, running := true, holding := false,
                         waiting := false, limited := true, destination := 20 }) := by decide +kernel

/-- STATE of a TELESCOPE in LIVE with the re-centre flag and an arm length of 9000 mm, 2328H. -/
theorem test_decode_state : decodeFrame (frameOf 4 [0x40, 0x02, 0, 0x20, 0, 0, 0x23, 0x28]) =
    some (.stateFrame 9 { axisKind := 0, hand := false, saving := false, recentre := true,
                          limited := false, axisState := 2, cueResult := 0, cue := 0, cause := 0,
                          pendingArm := false, positionPresent := true, position := 9000 }) := by decide +kernel

/-- MARK_SET of the duration to 5000, 1388H, for the node at address 3. -/
theorem test_decode_command : decodeFrame (frameOf 5 [3, 2, 0x55, 1, 0, 0, 0x13, 0x88]) =
    some (.markSet someone [1, 0, 0, 0x13, 0x88]) := by decide +kernel

theorem test_decode_unknown_command :
    decodeFrame (frameOf 5 [3, 13, 0x55]) = some (.unknownCommand someone 13 []) := by decide +kernel

theorem test_decode_reply :
    decodeFrame (frameOf 6 [3, 0x55, 2]) = some (.replyFrame 9 3 0x55 2 []) := by decide +kernel

/-- A POLL with an empty payload, and one to address 3. -/
theorem test_decode_poll : decodeFrame (frameOf 7 []) = some (.poll 9 none) ∧
    decodeFrame (frameOf 7 [3]) = some (.poll 9 (some 3)) := by decide +kernel

/-- A CUE of 5 payload bytes is too short, and a wrong check is no frame (R172). -/
theorem test_decode_discards : decodeFrame (frameOf 1 [0, 5, 10, 0, 0]) = none ∧
    decodeFrame { frameOf 0 [7] with check := 0 } = none := by decide +kernel

/-- The node's own HALT for LINK at address 3: identifier 03H, length 1, cause 4. -/
theorem test_sent_halt : (rawFrame 3 (.halt .link)).identifier = 0x03#8 ∧
    (rawFrame 3 (.halt .link)).length = 1#4 ∧ (rawFrame 3 (.halt .link)).payload = [4] := by decide +kernel

theorem test_no_word : decodeTableWord 8 0 = none := rfl

/-! ### A small node -/

/-- A pan node with T = 2 ms. -/
def panConfig : Configuration :=
  { axisKind := .pan, limitLow := -3000000, limitHigh := 3000000, velMax := 500000, accMax := 300000,
    liveRate := 400000, trimMax := 5000, crossfade := 500, period := .two, demandChannel := some 20,
    dialChannel := some 21, deadband := 64, expo := 128, grabLevel := 1500, followLimit := 300,
    baseLength := none, tipSpeed := none, assumedLength := none }

/-- The swing node of 4.10: TIP_SPEED 3000 mm/s. -/
def swingConfig : Configuration :=
  { panConfig with axisKind := .swing, tipSpeed := some 3000, assumedLength := some 12000 }

/-- The track node of 6.11. -/
def trackConfig : Configuration :=
  { panConfig with axisKind := .track, limitLow := 0, limitHigh := 50000, velMax := 100000,
                   accMax := 4000000, liveRate := 100000, period := .one }

/-- A mark with the start values of R1. -/
def markTo (position : Int) (duration : Nat) : Mark :=
  { startMark position with duration }

/-- Marks 10 to 13 of 1.7. -/
def loopTable : Vector MarkSlot 64 :=
  let put (n : MarkNo) (m : Mark) (v : Vector MarkSlot 64) : Vector MarkSlot 64 :=
    v.set n { record := some m, unsaved := false }
  put 10 { markTo 200000 3000 with next := some 11 }
    (put 11 { markTo 350000 2000 with dwell := 500, next := some 12 }
      (put 12 { markTo 500000 2500 with ease := .quintic, next := some 13, loopTo := some 11, repeats := 2 }
        (put 13 { markTo 420000 4000 with ease := .cruise, stop := true, endAction := .latch }
          MarkStore.reset.table)))

/-- A node in force at address 3 with the table of 1.7, at a setpoint, in an axis state. -/
def node (c : Configuration) (st : AxisState) (x : Int) : State :=
  { State.reset with
    startup := { Startup.reset with phase := .running, address := 3, config := some c },
    stopInput := true,
    marks := { MarkStore.reset with table := loopTable },
    control := { RunControl.reset with axisState := st },
    live := { rebuiltLive (some c) with recentre := false },
    blend := { BlendEngine.reset with timer := some 0, live := some x, history := some ⟨x, x⟩,
                                      aStep := aStepOf c, weightStep := weightStepOf c },
    drive := { DriveLink.reset with enable := true, captured := true },
    bus := { BusController.reset with stateTimer := some 0 } }

/-- A FOLLOW run of cue 5 on a segment, over the chain of 1.7. -/
def runOn (g : Segment) : RunContext :=
  { cue := 5, authority := .follow, share := 4096, segment := g, heldAside := none,
    loop := { owner := none, count := 0 }, remainder := 0, frozen := false, chainSet := [10, 11, 12, 13] }

/-- The segment to mark 12 of 1.7, half-way. -/
def halfWay : Segment :=
  { kind := .mark, origin := 350000, destination := 12, delta := 150000, duration := 2500,
    ease := .quintic, tau := 1250000, dwellServed := false, wait := .nowhere }

/-- A node with a run of cue 5 in one of the states with a run. -/
def running (st : AxisState) : State :=
  let s := node panConfig st 425000
  { s with control := { s.control with run := some (runOn halfWay),
                                       holdCause := if st = .holding then some .operator else none },
           blend := { s.blend with weight := 4096, weightTarget := 4096 } }

/-- An arm record of a cue from mark 10. -/
def armedFrom10 (cue : CueNo) : ArmRecord :=
  { cue, first := 10, chainSet := [13, 12, 11, 10], authority := .follow, share := 4096, age := 0 }

/-- The state a command leads to. -/
def after (i : Instr) (s : State) : State :=
  match exec i s with
  | .next t => t
  | .fault _ | .refused _ => s

/-- The replies a node holds, as result codes and data. -/
def answers (s : State) : List (Result × List Byte) := s.bus.replies.map fun r => (r.result, r.data)

/-! ### Marks and runs (chapter 1) -/

/-- 1.7: the chain set of an ARM from mark 10. -/
theorem test_chain : ∀ n, n ∈ reachable loopTable 10 ↔ n ∈ ([10, 11, 12, 13] : List MarkNo) := by decide +kernel

/-- 1.9: an ARM from an EMPTY mark is NO_MARK, and one whose chain reaches it BROKEN_CHAIN. -/
theorem test_arm_refusals :
    (after (.arm 9 5 14) (node panConfig .live 0)).control.cueResult = .noMark ∧
    (after (.arm 9 5 10)
      (let s := node panConfig .live 0
       { s with marks := { s.marks with table := s.marks.table.set 13 ⟨some { markTo 1 100 with next := some 14 }, false⟩ } })
      ).control.cueResult = .brokenChain := by decide +kernel

/-- 1.7: arrivals at mark 12 take the loop twice, counts 1 and 0, and free it the third time. -/
theorem test_loop : loopStep 12 2 ⟨none, 0⟩ = (⟨some 12, 1⟩, true) ∧
    loopStep 12 2 ⟨some 12, 1⟩ = (⟨some 12, 0⟩, true) ∧
    loopStep 12 2 ⟨some 12, 0⟩ = (⟨none, 0⟩, false) := by decide +kernel

/-- 1.7, segments 1 to 3: GO from 150,000, and the arrivals at 10 and 11. -/
theorem test_go_first_segment :
    ((after (.go 9 5 false) (let s := node panConfig .armed 150000
      { s with control := { s.control with arm := some (armedFrom10 5) } })).control.run.map
        fun r => (r.segment.origin, r.segment.delta, r.segment.duration)) = some (150000, 50000, 3000) := by
  decide +kernel

theorem test_dwell_built :
    ((takeArrival (let s := running .running
      { s with control := { s.control with run := some (runOn (markSegment 200000 11 (markAt s 11))) } })
      ).control.run.map fun r => (r.segment.kind, r.segment.origin, r.segment.delta, r.segment.duration)) =
      some (.dwell, 350000, 0, 500) := by decide +kernel

/-! ### The path (chapter 3) -/

/-- The segment of 3.8. -/
def swingSegment (tau : Nat) : Segment :=
  { kind := .mark, origin := 100000, destination := 20, delta := 1200000, duration := 4000, ease := .cubic,
    tau, dwellServed := false, wait := .nowhere }

/-- 3.8: the four advances from GO, τ 3, 11, 23, 39 and remainders 928, 736, 448, 64. -/
theorem test_path_clock :
    (advanceClock 2 2 0 (swingSegment 0)).2 = 928 ∧ (advanceClock 4 2 928 (swingSegment 3)).1.tau = 11 ∧
    (advanceClock 6 2 736 (swingSegment 11)).1.tau = 23 ∧
    (advanceClock 8 2 448 (swingSegment 23)) = (swingSegment 39, 64) := by decide +kernel

/-- 3.9: update 2702 is capped at the segment's end with remainder 576. -/
theorem test_path_cap : advanceClock 758 2 96 (swingSegment 3998746) = (swingSegment 4000000, 576) := by decide +kernel

/-- 3.9: quarter, half, three quarters and end. -/
theorem test_cubic : pathPosition (swingSegment 1000000) = 287500 ∧
    pathPosition (swingSegment 2000000) = 700000 ∧ pathPosition (swingSegment 3000000) = 1112500 ∧
    pathPosition (swingSegment 4000000) = 1300000 := by decide +kernel

/-- 3.10: segment 11, CRUISE. -/
theorem test_cruise :
    let g (tau : Nat) : Segment := { swingSegment tau with origin := 500000, delta := -80000, ease := .cruise }
    progress (g 600000) = 9830 ∧ pathPosition (g 600000) = 495200 ∧ pathPosition (g 2000000) = 460000 ∧
      pathPosition (g 3500000) = 423333 := by decide +kernel

/-- 3.10: segment 4, QUINTIC. -/
theorem test_quintic : pathPosition { halfWay with tau := 625000 } = 365527 ∧ pathPosition halfWay = 425000 := by
  decide +kernel

/-- 3.11: the RETURN-TRANSITION from 380,120 to 425,000. -/
theorem test_return :
    ((after (.returnCue 9 0 1500) (let s := running .waiting
      { s with control := { s.control with stack := [runOn halfWay] },
               blend := { s.blend with history := some ⟨380120, 380120⟩ } })).control.run.map
        fun r => (r.segment.delta, r.segment.duration, r.heldAside)) =
      some (44880, 1500, some halfWay) := by decide +kernel

/-! ### Pace (chapter 4) -/

/-- 4.10 and R77: the swing needs 758 and 836, the focus need 912. -/
theorem test_needs : velocityTerm 333333 1200000 4000 .cubic = 758 ∧
    accelerationTerm 300000 1200000 4000 .cubic = 836 ∧ velocityTerm 25050 30000 2000 .quintic = 912 := by
  decide +kernel

/-- A telescope's entry with an arm length. -/
def telescope (length : Int) (age : Nat) : PeerEntry :=
  { newEntry 7 with axisKind := some .telescope, position := some length, stateAge := age }

/-- 4.10: Veff at 9000 mm, and at ASSUMED_LENGTH 12,000 once the length is stale. -/
theorem test_veff : veffOf swingConfig [telescope 9000 250] = 333333 ∧
    veffOf swingConfig [telescope 9000 251] = 250000 := by decide +kernel

/-- 4.11: the dial at 1535, and the fall from 767 to a hold. -/
theorem test_dial_and_fall : dialPaceOf 1535 = 767 ∧ dialPaceOf 1023 = 511 ∧ slewPace 4 767 0 = 759 ∧
    slewPace 4 7 0 = 0 ∧ slewPace 4 0 767 = 4 := by decide +kernel

/-! ### Live demand (chapter 5) -/

/-- 5.9: the shaped outputs and live velocities at DEADBAND 64, EXPO 128, LIVE_RATE 400,000. -/
theorem test_shaping :
    let d := shapeDeadband 64
    let out (v : Int) := shapeExpo 128 (d v)
    (d 50, d 100, d 1200, d (-500), d 2047) = (0, 37, 1172, -450, 2047) ∧
    (out 100, out 1200, out (-500), out 2047) = (18, 778, -235, 2047) ∧
    (velocityOf 400000 (out 100), velocityOf 400000 (out 1200), velocityOf 400000 (out (-500))) =
      (3517, 152027, -45921) := by decide +kernel

/-- 5.10: updates 1 and 19 of a steady stick, and update 19 the other way. -/
theorem test_increment :
    liveIncrement 2 { LiveUnit.reset with velocity := 152027 } = (304, 54) ∧
    liveIncrement 2 { LiveUnit.reset with velocity := 152027, remainder := 972 } = (305, 26) ∧
    liveIncrement 2 { LiveUnit.reset with velocity := -152027, remainder := -972 } = (-305, -26) := by decide +kernel

/-- 5.11: a second hand unit's value is not taken while the first owns the channel. -/
theorem test_owner :
    let s := after (.demandFrame 5 ⟨20, true, 300, 0, 0⟩) (node panConfig .live 0)
    let t := after (.demandFrame 9 ⟨20, true, BitVec.ofInt 16 (-800), 0, 0⟩) s
    t.live.demand.map (fun r => (r.owner, r.value)) = some (some 5, some 300) := by decide +kernel

/-- R95, R100: a dial value held for 100 ms is stale, and stays in use. -/
theorem test_dial_stale :
    let s := node panConfig .live 0
    let r : ChannelRecord := { freshRecord 21 with owner := some 5, value := some 1023, age := 99, stale := false }
    let t := tick { s with live := { s.live with dial := some r } }
    (t.live.dial.map (·.stale), t.live.dial.map (·.owner), dialPaceNow t.live) = (some true, some (some 5), 511) := by
  decide +kernel

/-- 5.12: 1600 shapes to 1585 and starts the grab timer, 1450 to 1430 and breaks it. -/
theorem test_grab :
    let s := after (.demandFrame 5 ⟨20, true, 1600, 0, 0⟩) (running .running)
    let t := after (.demandFrame 5 ⟨20, true, 1450, 0, 0⟩) s
    (s.live.deflection, s.live.grabTimer, t.live.deflection, t.live.grabTimer) =
      (1585, some 0, 1430, none) := by decide +kernel

theorem test_grab_expiry :
    let s := running .running
    (after .grab { s with live := { s.live with grabTimer := some 200 } }).control.axisState = .releasing := by
  decide +kernel

/-! ### Blending and limits (chapter 6) -/

/-- 6.9: the update at trim 20, and the one at trim 40 with the limited flag. -/
theorem test_limit_chain :
    limitChain panConfig 333333 1 ⟨287000, 286481⟩ 20 287520 = ⟨287520, 20, false⟩ ∧
    limitChain panConfig 333333 1 ⟨287000, 286481⟩ 40 287540 = ⟨287520, 40, true⟩ := by decide +kernel

/-- 6.10: the weight step, and the mix part-way through a release. -/
theorem test_crossfade : weightStepOf panConfig = 17 ∧ stepWeight 17 4080 4096 = 4096 ∧
    mixOf 500000 510000 300 1700 = 504275 := by decide +kernel

/-- 6.11: the first two updates of flying into a limit. -/
theorem test_approach : aStepOf trackConfig = 4 ∧
    limitChain trackConfig 100000 4 ⟨48800, 48700⟩ 0 48900 = ⟨48897, 0, true⟩ ∧
    limitChain trackConfig 100000 4 ⟨48897, 48800⟩ 0 48997 = ⟨48990, 0, true⟩ := by decide +kernel

/-- 6.12: the excess of 32 takes the trim from 52 to 20. -/
theorem test_unwind :
    limitChain { panConfig with limitHigh := 1300010 } 500000 1 ⟨1300010, 1300010⟩ 52 1300042 =
      ⟨1300010, 20, true⟩ := by decide +kernel

/-- A mix cut at the limit unwinds the trim in RUNNING, and leaves it in RELEASING (R31, R117, R120). -/
theorem test_trim_in_releasing :
    let s (st : AxisState) : State := { running st with
      startup := { (running st).startup with config := some { panConfig with limitHigh := 425010 } },
      blend := { (running st).blend with trim := 52 } }
    ((after .update (s .running)).blend.trim, (after .update (s .releasing)).blend.trim) = (10, 52) := by
  decide +kernel

/-- 6.13: the first step of a stop from 520 is 519, and the limited flag stays clear. -/
theorem test_stopping : stoppingProfile panConfig 1 ⟨287520, 287000⟩ 0 = ⟨288039, 0, false⟩ := by decide +kernel

/-! ### Drive link and faults (chapter 7) -/

/-- 7.10: an error of 300 does not count, one of 400 does. -/
theorem test_following_count :
    followingAfter panConfig ⟨0, some 20300⟩ 20000 5 = 0 ∧ followingAfter panConfig ⟨0, some 20400⟩ 20000 5 = 6 := by
  decide +kernel

/-- 7.11: the eighth missed close faults with DRIVE_LOST, the enable off and the next record a request. -/
theorem test_drive_lost :
    let s := running .running
    let t := after .update { s with drive := { s.drive with missed := 7, exchange := some ⟨0, some 425000⟩, seq := 1 } }
    (t.control.axisState, t.drive.faultCause, t.drive.enable, t.bus.haltSlot, t.drive.sent) =
      (.fault, some .driveLost, false, some .driveLost, some (.request 1)) := by decide +kernel

/-- 7.11: a CLEAR takes history and live position to the last feedback. -/
theorem test_clear :
    let s := node panConfig .fault 0
    let t := after (.clear someone []) { s with drive := { s.drive with faultCause := some .driveLost, enable := false, lastFeedback := some 312400 } }
    (t.control.axisState, t.blend.history, t.blend.live, t.drive.enable, t.live.recentre) =
      (.live, some ⟨312400, 312400⟩, some 312400, true, true) := by decide +kernel

/-- 7.12: an answer that carries an older number is discarded. -/
theorem test_late_answer :
    let s := node panConfig .live 0
    let t := after (.feedbackRecord 41 true 5) { s with drive := { s.drive with exchange := some ⟨42, some 0⟩ } }
    (t.drive.answer, t.drive.lastFeedback) = (none, none) := by decide +kernel

theorem test_stop_input :
    ((after (.stopInputChange false) (running .running)).control.axisState,
      (after (.stopInputChange false) (running .running)).control.haltCause) = (.halted, some .stopInput) := by
  decide +kernel

/-- R131: a LINK cause replaced by DRIVE_LOST still has its flag set by the first frame sent intact; without a LINK
cause none is set. -/
theorem test_link_intact :
    let sends (s : State) : State := after .frameSentIntact (after .frameSendStart s)
    let echo (s : State) : State := { s with bus := { s.bus with inHand := some ⟨.state, true, false⟩, echoErrors := 7 } }
    let s := node panConfig .live 0
    ((sends (after .driveLost (after .echoError (echo s)))).drive.linkIntact,
      (sends (after .driveLost s)).drive.linkIntact) = (true, false) := by decide +kernel

/-! ### Peers, commands and the bus (chapters 8 to 10) -/

/-- A counted peer's loss holds the run (R93). -/
theorem test_peer_lost :
    let s := running .running
    let t := after (.peerLost 7) { s with peers := [newEntry 7], pace := { s.pace with counted := [7] } }
    (t.control.axisState, t.control.holdCause, t.pace.counted) = (.holding, some .peerLost, []) := by decide +kernel

/-- A need above 1024 is recorded as 1024 (R173). -/
theorem test_pace_frame :
    ((after (.paceFrame 7 ⟨2000, 5, false, true, false, false, false, 12⟩) (running .running)).peers.map
      fun e => (e.address, e.need)) = [(7, some 1024)] := by decide +kernel

theorem test_peer_read :
    answers (after (.peerRead someone [7]) { node panConfig .live 0 with peers := [telescope 9000 3] }) =
      [(.ok, [15, 0xFF, 0xFF, 255, 0])] := by decide +kernel

/-- A node in LIVE with mark 13 open, held by address 9, and a dwell of 500. -/
def editing : State :=
  let s := node panConfig .live 0
  { s with marks := { s.marks with edit := some ⟨13, markTo 420000 4000, 9, 100⟩ } }

theorem test_mark_open :
    answers (after (.markOpen someone [13]) (node panConfig .live 0)) = [(.ok, [13, 1])] ∧
    answers (after (.markOpen someone [13]) editing) = [(.locked, [])] := by decide +kernel

/-- 9.7: a dwell of 70,000 is CLAMPED to 60,000, EA60H. -/
theorem test_mark_set :
    answers (after (.markSet someone [5, 0, 1, 0x11, 0x70]) editing) = [(.clamped, [5, 0, 0, 0xEA, 0x60])] := by
  decide +kernel

/-- 9.7: a commit while an armed cue's chain holds the mark is BUSY. -/
theorem test_commit_busy :
    answers (after (.markClose someone [1])
      { editing with control := { editing.control with axisState := .armed, arm := some (armedFrom10 5) } }) =
      [(.busy, [])] := by decide +kernel

theorem test_commit :
    let t := after (.markClose someone [1]) editing
    (t.marks.table[13].record, t.marks.table[13].unsaved, t.marks.edit) = (some (markTo 420000 4000), true, none) := by
  decide +kernel

theorem test_mark_erase :
    let t := after (.markErase someone [13]) (node panConfig .live 0)
    (t.marks.table[13].record, t.marks.table[13].unsaved) = (none, true) := by decide +kernel

/-- A next of 11 read from mark 10: status VALID and saved, value 11. -/
theorem test_mark_read :
    answers (after (.markRead someone [10, 6]) (node panConfig .live 0)) = [(.ok, [1, 0, 0, 0, 11])] := by decide +kernel

/-- A save writes slot 0 first, and each slot's end begins the next (R164). -/
theorem test_save :
    let s := after (.save someone []) (node panConfig .live 0)
    (s.marks.save.map (·.slot), (after .saveSlotWriteEnd s).marks.save.map (·.slot)) = (some 0, some 1) := by
  decide +kernel

/-- 9.8: a slot cut short in its write loads EMPTY and unsaved. -/
theorem test_cut_short : loadSlot ⟨some (markTo 90000 100), true⟩ = ⟨none, true⟩ := by decide +kernel

/-- The eighth echo error drops the frame and reports LINK (R169). -/
theorem test_echo_drop :
    let s := node panConfig .live 0
    let t := after .echoError { s with bus := { s.bus with inHand := some ⟨.state, true, false⟩, echoErrors := 7 } }
    (t.control.axisState, t.drive.faultCause, t.bus.echoErrors, t.bus.inHand) =
      (.fault, some .link, 0, none) := by decide +kernel

/-- HALT goes before PACE, STATE and REPLY (R171). -/
theorem test_send_order :
    (after .frameSendStart (after .driveLost (running .running))).bus.line =
      .frame 3 (.halt .driveLost) := by
  decide +kernel

/-! ### Start-up (chapter 11) -/

/-- A part never configured comes up in SETUP; with address 0 in FAULT (R23). -/
theorem test_first_state :
    let up (a : Addr) := after .loadingEnd (after (.resetRelease a false) State.reset)
    ((up 3).control.axisState, (up 0).control.axisState, (up 0).drive.permanent) = (.setup, .fault, true) := by
  decide +kernel

/-- A GRAB_LEVEL of 100 is moved to 256, 0100H (R179). -/
theorem test_config_set :
    answers (after (.configSet someone [13, 0, 0, 0, 100])
      (after .loadingEnd (after (.resetRelease 3 false) State.reset))) = [(.clamped, [13, 0, 0, 1, 0])] := by
  decide +kernel

/-- A configuration written back as it is staged reads as itself (R180). -/
theorem test_config_round : configurationOf (stagedOf swingConfig) = some swingConfig ∧
    firstFailure (stagedOf swingConfig) = none := by decide +kernel

/-! ### Witnesses: for each statement with hypotheses, a state and operands that meet them -/

/-- A node in loading, with a configuration and marks stored. -/
def loading (address : Addr) (setup : Bool) : State :=
  { State.reset with
    startup := { Startup.reset with phase := .loading 49, address, setupStrap := setup },
    nonvolatile := { Nonvolatile.blank with config := some panConfig,
                                            slots := Nonvolatile.blank.slots.set 10 ⟨some (markTo 9 100), false⟩ } }

/-- A node with an arm record of a cue. -/
def armed (cue : CueNo) (s : State) : State := { s with control := { s.control with arm := some (armedFrom10 cue) } }

/-- A node in SETUP with a staged configuration. -/
def setup (staged : StagedConfiguration) : State :=
  let s := node panConfig .setup 0
  { s with startup := { s.startup with staged } }

/-- A node with a fault cause. -/
def faulted (cause : FaultCause) : State :=
  let s := node panConfig .fault 0
  { s with drive := { s.drive with faultCause := some cause, lastFeedback := some 5, linkIntact := true,
                                   clashAge := some 1000 } }

/-- A node in WAKING, its settle timer run out, with an exchange open. -/
def waking (captured : Bool) : State :=
  let s := node panConfig .waking 0
  { s with control := { s.control with settle := some 200 },
           drive := { s.drive with captured, enable := captured, exchange := some ⟨0, none⟩ } }

/-- A node that takes a frame of a kind. -/
def sendingFrame (k : SentKind) (errors : Nat) : State :=
  let s := node panConfig .live 0
  { s with bus := { s.bus with inHand := some ⟨k, true, false⟩, echoErrors := errors } }

/-- A node in a state that steers no axis, with the stop chain broken. -/
def broken (st : AxisState) : State := { node panConfig st 0 with stopInput := false }

/-- A running node with an exchange open and answered, as every update but the first finds it. -/
def exchanging (st : AxisState) : State :=
  { running st with drive := { (running st).drive with
      exchange := some ⟨7, some 425000⟩, answer := some ⟨7, true, 425000⟩, seq := 8 } }

theorem witness_IdleStepIsAMillisecond : State.reset.pending = [] ∧ State.reset.startup.phase = .asserted ∧
    (loading 3 false).pending = [] ∧ (loading 3 false).startup.phase = .loading 49 := by decide +kernel

/-- A running node with nothing due: its clocks count. -/
theorem witness_IdleStepIsAMillisecond_nothing : NothingDue (armed 5 (node panConfig .live 0)) ∧
    (oneMsLater (armed 5 (node panConfig .live 0))).blend.timer = some 1 ∧
    (oneMsLater (armed 5 (node panConfig .live 0))).control.arm.map (·.age) = some 1 := by
  refine ⟨⟨?_, ?_, ?_, ?_, ?_, ?_, ?_, ?_, ?_, ?_, ?_⟩, by decide +kernel, by decide +kernel⟩
  · intro n h; cases h
  · intro a h; cases h; decide
  · intro r h; rcases h with h | h <;> cases h <;> decide
  · intro r h; rcases h with h | h <;> cases h <;> decide
  · intro n h; cases h
  · intro e h; cases h
  · intro e h; cases h
  · intro p h; cases h
  · intro w h; cases h
  · intro n h; cases h; decide
  · intro c n hc h; cases hc; cases h; decide

/-- An arm record in its last millisecond, in a state whose records fit. -/
theorem witness_IdleStepIsAMillisecond_expiry :
    let s := armed 5 (node panConfig .live 0)
    let t : State := { s with control := { s.control with arm := some { armedFrom10 5 with age := 29999 } } }
    RecordsFit t ∧ t.startup.phase = .running ∧ t.pending = [] ∧ (tick t).control.cueResult = .expired :=
  ⟨by constructor <;> decide +kernel, rfl, rfl, by decide +kernel⟩

/-- Events in the ms in which they fall due, together: arm record, stale demand and dial, silent owner, lost peer, lease,
STATE interval and update. -/
theorem witness_IdleStepIsAMillisecond_due :
    let s := exchanging .running
    let heard (age : Nat) : ChannelRecord :=
      { channel := 20, owner := some 9, value := some 5, deadman := true, age, stale := false }
    let late : State := { s with
      control := { s.control with arm := some { armedFrom10 8 with age := 29999 } },
      live := { s.live with demand := some (heard 99), dial := some (heard 499) },
      peers := [{ newEntry 7 with heardAge := 999 }],
      marks := { s.marks with edit := some ⟨20, startMark 0, 9, 1999⟩ },
      bus := { s.bus with stateTimer := some 19 }, blend := { s.blend with timer := some 1 } }
    let t := tick late
    PeersLawful late ∧ t.control.arm = none ∧ t.live.demand.map (·.stale) = some true ∧
    t.live.dial.map (fun r => (r.stale, r.owner)) = some (true, none) ∧
    t.peers.map (·.presence) = [.lost] ∧ t.marks.edit = none ∧
    t.bus.stateTimer = some 0 ∧ t.blend.timer = some 0 ∧ t.drive.seq = 9 :=
  ⟨by constructor <;> decide +kernel, by decide +kernel⟩

/-- The settle timer, a grab, a slot's write and the configuration write, each in its ms. -/
theorem witness_IdleStepIsAMillisecond_writes :
    let w := waking true
    let saving := { node panConfig .live 0 with marks := { MarkStore.reset with save := some ⟨63, 4⟩ } }
    let written := { setup (stagedOf panConfig) with
      startup := { (setup (stagedOf panConfig)).startup with write := some ⟨panConfig, 99⟩ } }
    (tick { w with control := { w.control with settle := some 199 } }).control.axisState = .live ∧
    (let g := exchanging .running
     (tick { g with live := { g.live with grabTimer := some 199 } }).control.axisState = .releasing) ∧
    (tick saving).marks.save = none ∧ (tick written).control.axisState = .waking := by decide +kernel

theorem witness_ResetRestoresEveryBlock : State.reset.startup.phase = .asserted := rfl

/-- The three ways of LOADING_END: address 0, the setup strap, and WAKING. -/
theorem witness_LoadingEndChoosesTheFirstState :
    (after .loadingEnd (loading 0 false)).control.axisState = .fault ∧
    (after .loadingEnd (loading 3 true)).control.axisState = .setup ∧
    (after .loadingEnd (loading 3 false)).control.axisState = .waking := by decide +kernel

theorem witness_ConfigSetStagesAField :
    Taken someone (setup (stagedOf panConfig)) ∧ (setup (stagedOf panConfig)).control.axisState = .setup := by
  decide +kernel

/-- The bounds of the fields of R179. -/
theorem witness_ConfigSetStagesAField_bounds :
    configStored 0 9 = some 9 ∧ configStored 0 10 = none ∧ configStored 3 0 = some 1 ∧
    configStored 4 500000001 = some 500000000 ∧ configStored 7 49 = some 50 ∧ configStored 8 3 = none ∧
    configStored 9 63 = some 63 ∧ configStored 9 64 = none ∧ configStored 10 255 = some 255 ∧
    configStored 13 0 = some 0 ∧ configStored 13 1 = some 256 ∧ configStored 13 2048 = some 2047 ∧
    configStored 17 499 = some 500 := by decide +kernel

/-- With no write running, a check that fails in two ways, and while a write runs. -/
theorem witness_ConfigDoneChecksTheRecord : Taken someone (setup (stagedOf swingConfig)) ∧
    (setup (stagedOf swingConfig)).startup.write = none ∧
    firstFailure (stagedOf { panConfig with limitLow := 5, limitHigh := 5 }) = some 2 ∧
    firstFailure ((stagedOf swingConfig).set 17 none) = some 17 ∧
    (let s := setup (stagedOf panConfig)
     answers (after (.configDone someone []) { s with startup := { s.startup with write := some ⟨panConfig, 3⟩ } }) =
       [(.busy, [])]) := by decide +kernel

theorem witness_ConfigWriteEndPutsTheRecordInForce :
    let s := setup (stagedOf panConfig)
    let t : State := { s with startup := { s.startup with write := some ⟨panConfig, 100⟩ } }
    t.startup.phase = .running ∧ t.startup.write = some ⟨panConfig, 100⟩ := by decide +kernel

theorem witness_ParkAndWake : Taken someone (node panConfig .live 0) ∧ Taken someone (node panConfig .parked 0) ∧
    lastStep (node panConfig .live 0).blend = 0 ∧ (node panConfig .live 0).control.arm = none := by
  decide +kernel

/-- Arrivals in RUNNING at 11 (dwell), 12 (loop), 10 (next) and 13 (stop). -/
theorem witness_ArrivalGoesThroughTheSteps : (running .running).control.axisState = .running ∧
    (running .running).control.run = some (runOn halfWay) ∧ halfWay.kind ≠ .returnTransition ∧
    (running .running).stopInput = true ∧
    (running .running).marks.table[12].record.map (·.loopTo) = some (some 11) ∧
    (running .running).marks.table[11].record.map (·.dwell) = some 500 ∧
    (running .running).marks.table[10].record.map (·.next) = some (some 11) ∧
    (running .running).marks.table[13].record.map (·.stop) = some true := by decide +kernel

/-- Arrivals at the end of a chain: RELEASE, LATCH, with a stacked run, and in RELEASING and HOLDING. -/
theorem witness_ArrivalGoesThroughTheSteps_ends :
    let last (st : AxisState) (e : EndAction) (stack : List RunContext) : State :=
      let s := running st
      { s with control := { s.control with run := some (runOn { halfWay with destination := 13 }), stack },
               marks := { s.marks with table := s.marks.table.set 13 ⟨some { markTo 9 100 with endAction := e }, false⟩ } }
    (takeArrival (last .running .release [])).control.axisState = .releasing ∧
    (takeArrival (last .holding .latch [])).control.axisState = .live ∧
    (takeArrival (last .running .release [runOn halfWay])).control.axisState = .waiting ∧
    (takeArrival (last .releasing .latch [])).control.run.map (·.frozen) = some true := by decide +kernel

/-- A RETURN-TRANSITION's end hands back a run that stood at a stop: it waits again, but not in RELEASING. -/
theorem witness_ArrivalGoesThroughTheSteps_back :
    let g : Segment := { halfWay with tau := 2500000, wait := .stop }
    let back (st : AxisState) : State :=
      let r : RunContext := { runOn (returnSegment 0 1500 g) with heldAside := some g }
      { running st with control := { (running st).control with run := some r } }
    (back .running).control.run.map (·.segment.kind) = some .returnTransition ∧
    (takeArrival (back .running)).control.axisState = .waiting ∧
    (takeArrival (back .releasing)).control.run.map (·.segment.destination) = some 11 := by decide +kernel

theorem witness_ProgressIsRoundedDown : 0 < halfWay.duration ∧ halfWay.tau ≤ segmentEnd halfWay ∧
    progress halfWay = 32768 := by decide +kernel

theorem witness_PathFollowsTheEase : 16384 ≤ 49152 ∧ 49152 ≤ 65536 ∧ positionAt halfWay 16384 = 365527 := by
  decide +kernel

theorem witness_NeedTermsAreTheLargestPaces : 0 < 1200000 ∧ 0 < 4000 := by decide

/-- With a fresh length, with none, and on an axis without the limit. -/
theorem witness_ArmTipLimitsSwingAndLift : swingConfig.tipSpeed = some 3000 ∧
    swingConfig.assumedLength = some 12000 ∧ veffOf swingConfig [telescope 9000 0] = 333333 ∧
    veffOf swingConfig [] = 250000 ∧ veffOf panConfig [telescope 9000 0] = 500000 := by decide +kernel

/-- Targets and figures in a run, armed, and with a dial. -/
theorem witness_PaceHeadsForTheLeastNeed : (running .running).startup.config = some panConfig ∧
    (running .running).blend.timer = some 0 ∧ (running .running).control.run = some (runOn halfWay) ∧
    (armed 5 (node panConfig .armed 0)).blend.history = some ⟨0, 0⟩ ∧
    (after .update (running .running)).control.axisState = .running ∧
    (after .update (running .running)).pace.applied = 2 := by decide +kernel

/-- A fresh peer joins the counted set; a PACE frame goes at a change of 16 and not of 15, at 50 ms and not at 49. -/
theorem witness_PaceHeadsForTheLeastNeed_frames :
    let s := exchanging .waiting
    let peer : PeerEntry := { newEntry 7 with
      need := some 500, paceCue := some 5, paceAge := 250, flags := ⟨false, true, false, false, false⟩ }
    let sent (need ms : Nat) : State := { s with
      peers := [peer], pace := { s.pace with lastNeedSent := some need, interval := some ms } }
    (after .update (sent 1008 49)).pace.lastNeedSent = some 1024 ∧
    (after .update (sent 1009 49)).bus.paceSlot = none ∧
    (after .update (sent 1024 50)).bus.paceSlot.map (·.waiting) = some true ∧
    (after .update (sent 1024 49)).pace.counted = [7] := by decide +kernel

/-- In RUNNING short of the segment's end, in HOLDING at it, in WAITING, in a frozen RELEASING, and without a run. -/
theorem witness_UpdateAdvancesThePathClock : (exchanging .running).startup.config = some panConfig ∧
    (exchanging .running).blend.timer = some 0 ∧ (exchanging .running).control.run = some (runOn halfWay) ∧
    QuietClose panConfig (exchanging .running).drive ∧
    (after .update (exchanging .running)).control.run.map (·.segment.tau) = some 1250003 ∧
    (let s := exchanging .holding
     let t : State := { s with control := { s.control with run := some (runOn { halfWay with tau := 2500000 }) } }
     (after .update t).control.run.map (·.segment.destination) = some 11 ∧
     (after .update t).control.axisState = .holding) ∧
    (pathStage panConfig (exchanging .waiting)).2 = some 500000 ∧
    (let s := exchanging .releasing
     let t : State := { s with control := { s.control with run := some { runOn halfWay with frozen := true } } }
     (pathStage panConfig t).2 = some 500000 ∧ (after .update t).control.run = t.control.run) ∧
    hasRun (node panConfig .live 0).control.axisState = false := by decide +kernel

/-- A live position and a trim, inside and at the end of their ranges, and neither. -/
theorem witness_LiveIncrementGoesWhereItShould : (node panConfig .live 0).blend.live = some 0 ∧
    (running .running).control.run.map (·.authority) = some .follow ∧
    (liveStage panConfig (node panConfig .halted 0)).2 = false ∧
    (let moving (s : State) (v : Int) : State := { s with live := { s.live with velocity := v } }
     (liveStage panConfig (moving (node panConfig .live 2999999) 500)).2 = false ∧
     (liveStage panConfig (moving (node panConfig .live 2999999) 1000)).2 = true ∧
     (liveStage panConfig (moving (running .running) 2500000)).2 = false ∧
     (liveStage panConfig (moving (running .running) 2500500)).2 = true) := by decide +kernel

/-- The ends of the mix; an update in RUNNING, RELEASING and LIVE, with an exchange open. -/
theorem witness_UpdateMixesAndLimits : 1700 ≤ 4096 ∧ mixOf 0 10 0 4096 = 10 ∧ mixOf 0 10 0 0 = 0 ∧
    QuietClose panConfig (exchanging .running).drive ∧
    (exchanging .running).blend.history = some ⟨425000, 425000⟩ ∧
    (∀ st ∈ [AxisState.running, .releasing, .live],
      let path := pathStage panConfig (paceWork panConfig (exchanging st))
      let moved := liveStage panConfig (paceCheck path.1)
      working moved.1.control.axisState = true ∧ moved.1.blend.live = some 425000) := by decide +kernel

theorem witness_UpdateKeepsTheSetpointLaws : LimitsOrdered panConfig ∧ Within panConfig 425000 ∧
    (running .running).blend.history = some ⟨425000, 425000⟩ ∧ (running .running).blend.timer = some 0 ∧
    (425000 - 425000 : Int).natAbs ≤ max 1 (500000 * 2 / 1000) := by decide +kernel

/-- A halted node at speed, at rest, and at rest with its count past the mark; a faulted node whose drive is still lost. -/
theorem witness_HaltedNodeBrakesToRest :
    let s : State := { node panConfig .halted 0 with drive := { (exchanging .running).drive with
      exchange := some ⟨7, some 0⟩, answer := some ⟨7, true, 0⟩ } }
    let moving (t : State) : State := { t with blend := { t.blend with history := some ⟨0, -5⟩ } }
    let silent (t : State) : State := { t with drive := { t.drive with missed := 8, answer := none } }
    QuietClose panConfig s.drive ∧ QuietClose panConfig (silent s).drive ∧
    (after .update s).control.axisState = .live ∧ (after .update (silent s)).control.axisState = .live ∧
    (after .update (moving s)).blend.history = some ⟨4, 0⟩ ∧
    (after .update (moving s)).control.axisState = .halted ∧
    (after .update (silent (moving (faulted .driveLost)))).blend.history = some ⟨4, 0⟩ := by decide +kernel

/-- With the enable off, on the eighth miss, on the tenth following error, and with the enable on. -/
theorem witness_UpdateClosesAndOpensAnExchange : (waking false).startup.config = some panConfig ∧
    (waking false).blend.timer = some 0 ∧ (waking false).drive.enable = false ∧
    (let s := exchanging .running
     let t := after .update { s with drive := { s.drive with missed := 7, answer := none } }
     let u := after .update { s with drive := { s.drive with following := 9, answer := some ⟨7, true, 0⟩ } }
     t.drive.faultCause = some .driveLost ∧ t.drive.enable = false ∧
     u.drive.faultCause = some .following ∧ u.drive.enable = true ∧
     (after .update s).drive.exchange.map (·.seq) = some 8) := by decide +kernel

/-- On the last update of a release, and before it. -/
theorem witness_ReleaseEndsInLive :
    let s (w : Nat) : State := { exchanging .releasing with
      blend := { (exchanging .releasing).blend with weight := w, weightTarget := 0, trim := 20 } }
    (s 17).control.run = some (runOn halfWay) ∧ (s 17).blend.weightTarget = 0 ∧
    QuietClose panConfig (s 17).drive ∧
    (after .update (s 17)).control.axisState = .live ∧ (after .update (s 18)).control.axisState = .releasing ∧
    (after .update (s 18)).blend.trim = 20 := by decide +kernel

/-- In a state that sends PACE frames and in one that does not. -/
theorem witness_PaceIntervalQueuesAPaceFrame :
    let timed (s : State) : State := { s with pace := { s.pace with interval := some 50 } }
    (timed (running .waiting)).pace.interval = some 50 ∧ (running .waiting).drive.permanent = false ∧
    (after .paceInterval (timed (running .waiting))).pace.lastNeedSent = some 1024 ∧
    (after .paceInterval (timed (node panConfig .live 0))).pace.lastNeedSent = none := by decide +kernel

theorem witness_StateFrameShowsTheNode : (running .running).bus.stateTimer = some 0 ∧
    Accepts 9 (running .running) ∧ (running .running).drive.permanent = false ∧
    (running .running).startup.address = 3 := by decide +kernel

/-- The four places a check can find the node. -/
theorem witness_DriveChecksFault : (waking false).drive.captured = false ∧ (waking true).drive.captured = true ∧
    (faulted .link).drive.permanent = false ∧
    (after .driveLost (faulted .link)).drive.faultCause = some .driveLost ∧
    (after .driveLost (running .running)).control.axisState = .fault := by decide +kernel

/-- A capture at the limit, beyond it, and an answer of another number. -/
theorem witness_FeedbackAnswersAndIsCaptured : (waking false).drive.exchange = some ⟨0, none⟩ ∧
    (waking false).drive.answer = none ∧
    (after (.feedbackRecord 0 true 3000000) (waking false)).drive.enable = true ∧
    (after (.feedbackRecord 0 true 3000001) (waking false)).control.axisState = .fault ∧
    after (.feedbackRecord 1 true 0) (waking false) = waking false := by decide +kernel

theorem witness_StopInputAndSettleTimer : (running .running).stopInput = true ∧
    lastStep (node panConfig .halted 0).blend = 0 ∧ (waking true).control.settle ≠ none ∧
    (after .settleTimerExpiry (waking true)).control.axisState = .live ∧
    (after .settleTimerExpiry (waking false)).control.axisState = .fault ∧
    (after .settleTimerExpiry { waking true with stopInput := false }).control.axisState = .halted := by
  decide +kernel

/-- Accepted for a quiet clash, refused one ms before. -/
theorem witness_ClearLeavesFault : Taken someone (faulted .addressClash) ∧
    answers (after (.clear someone []) (faulted .addressClash)) = [(.ok, [])] ∧
    answers (after (.clear someone []) { faulted .addressClash with
      drive := { (faulted .addressClash).drive with clashAge := some 999 } }) = [(.causePresent, [])] := by
  decide +kernel

/-- In ARMED, and in a halted node with the stop chain broken. -/
theorem witness_RecordsExpire :
    let s := armed 5 (node panConfig .armed 0)
    StopRespected s ∧ s.drive.permanent = false ∧ s.control.arm = some (armedFrom10 5) ∧
    s.live.demand = some (freshRecord 20) ∧ s.live.dial = some (freshRecord 21) ∧
    (some (9 : Addr)) ≠ none ∧ StopRespected (broken .halted) ∧
    (after .demandStale (broken .halted)).live.demand.map (·.age) = some 100 := by decide +kernel

/-- A grab, a counted loss in RUNNING, and one in HALTED with the stop chain broken. -/
theorem witness_GrabReleasesAndLossHolds :
    let lossy (s : State) : State := { s with live := { s.live with grabTimer := some 200 }, peers := [newEntry 7],
                                               pace := { s.pace with counted := [7] } }
    let t := lossy (running .running)
    t.live.grabTimer = some 200 ∧ peerAt t.peers 7 = some (newEntry 7) ∧ (newEntry 7).presence = .present ∧
    StopRespected t ∧ (after (.peerLost 7) t).control.axisState = .holding ∧
    (after (.peerLost 7) t).peers.map (fun e => (e.heardAge, e.paceAge)) = [(1000, 65535)] ∧
    (after (.peerLost 7) (lossy (broken .halted))).pace.counted = [] ∧
    (after (.peerLost 7) (lossy (broken .halted))).control.axisState = .halted := by decide +kernel

/-- A run that matches, a pending arm that matches, and neither. -/
theorem witness_HaltAndAbort : Accepts 9 (running .running) ∧ Matches 0 5 ∧
    (after (.abort 9 5) (running .running)).control.axisState = .halted ∧
    (after (.abort 9 8) (armed 8 (running .running))).control.arm = none ∧
    (after (.abort 9 9) (armed 8 (running .running))).control.arm = some (armedFrom10 8) ∧
    after (.haltFrame 9 7) (broken .parked) = heardFrom 9 (broken .parked) := by decide +kernel

theorem witness_ArmChecksTheChain : Accepts 9 (node panConfig .live 0) ∧
    StopRespected (node panConfig .live 0) ∧ (node panConfig .live 0).drive.permanent = false ∧
    (after (.arm 9 5 10) (node panConfig .live 0)).control.axisState = .armed ∧
    (after (.arm 9 8 10) (running .running)).control.arm.map (·.cue) = some 8 ∧
    StopRespected (broken .halted) ∧
    (after (.arm 9 5 10) (broken .halted)).control.cueResult = .badState := by decide +kernel

theorem witness_GoStartsTheRun : Accepts 9 (armed 5 (node panConfig .armed 0)) ∧
    (armed 5 (node panConfig .armed 0)).marks.table[10].record.isSome = true ∧
    (armed 5 (node panConfig .armed 0)).blend.history = some ⟨0, 0⟩ ∧ (armedFrom10 5).cue = 5 := by
  decide +kernel

/-- Nesting below and at 3 contexts, a miss, number 0, a state that hears only, and one that refuses. -/
theorem witness_GoContinuesOrMisses :
    let stacked (k : Nat) : State :=
      let s := armed 8 (running .running)
      { s with control := { s.control with stack := List.replicate k (runOn halfWay) } }
    (after (.go 9 8 true) (stacked 2)).control.stack.length = 3 ∧
    (after (.go 9 8 true) (stacked 3)).control.cueResult = .stackFull ∧
    (after (.go 9 9 false) (running .running)).control.cueResult = .missed ∧
    after (.go 9 0 false) (running .running) = heardFrom 9 (running .running) ∧
    after (.go 9 5 false) (broken .parked) = heardFrom 9 (broken .parked) ∧
    (after (.go 9 5 false) (broken .fault)).control.cueResult = .badState := by decide +kernel

/-- A GO at a stop mark: through the loop-to link, the next link, and each end of the chain. -/
theorem witness_GoContinuesOrMisses_stop :
    let s := running .waiting
    let stopAt (n : MarkNo) (stack : List RunContext) (e : EndAction) : State := { s with
      marks := { s.marks with table := s.marks.table.set 13 ⟨some { markTo 9 100 with endAction := e }, false⟩ },
      control := { s.control with stack, run := some (runOn { halfWay with destination := n, wait := .stop }) } }
    let goes (t : State) : AxisState := (after (.go 9 5 false) t).control.axisState
    StopRespected (stopAt 12 [] .latch) ∧ goes (stopAt 12 [] .latch) = .running ∧
    (after (.go 9 5 false) (stopAt 12 [] .latch)).control.run.map (·.segment.destination) = some 11 ∧
    goes (stopAt 10 [] .latch) = .running ∧ goes (stopAt 13 [] .latch) = .live ∧
    goes (stopAt 13 [] .release) = .releasing ∧ goes (stopAt 13 [runOn halfWay] .release) = .waiting := by
  decide +kernel

theorem witness_HoldAndResume : (running .running).control.run = some (runOn halfWay) ∧ Matches 5 5 ∧
    (after (.hold 9 5) (running .running)).control.axisState = .holding ∧
    (after (.resume 9 5) (running .holding)).control.axisState = .running ∧
    after (.hold 9 6) (running .running) = heardFrom 9 (running .running) ∧
    after (.resume 9 5) (broken .halted) = heardFrom 9 (broken .halted) ∧
    (after (.hold 9 5) (broken .halted)).control.cueResult = .badState := by decide +kernel

/-- In WAITING, in RELEASING, and without a run. -/
theorem witness_ReturnGoesBack : (running .waiting).control.run = some (runOn halfWay) ∧
    (running .waiting).blend.history = some ⟨425000, 425000⟩ ∧
    (after (.returnCue 9 0 99) (running .waiting)).control.cueResult = .noReturn ∧
    (after (.returnCue 9 5 99) (running .releasing)).control.cueResult = .badState ∧
    (after (.returnCue 9 6 99) (running .releasing)).control.cueResult = .noResult ∧
    (after (.returnCue 9 6 99) (node panConfig .live 0)).control.cueResult = .badState ∧
    (after (.returnCue 9 6 99) (broken .fault)).control.cueResult = .badState := by decide +kernel

/-- The channels base, base + 2, and one beyond; the deadband's edge; a frame from address 0, and a node without records. -/
theorem witness_DemandFrameIsShaped : Accepts 9 (node panConfig .live 0) ∧
    (node panConfig .live 0).live.demand = some (freshRecord 20) ∧
    demandValueFor ⟨18, true, 0, 0, 7⟩ 20 = some 7 ∧ demandValueFor ⟨17, true, 0, 0, 7⟩ 20 = none ∧
    shapeDeadband 64 64 = 0 ∧ shapeDeadband 64 65 = 1 ∧ Accepts 0 (node panConfig .live 0) ∧
    after (.demandFrame 0 ⟨20, true, 5, 5, 5⟩) (node panConfig .live 0) = node panConfig .live 0 ∧
    (node { panConfig with demandChannel := none, dialChannel := none } .live 0).live.demand = none := by
  decide +kernel

/-- A station first heard by a REPLY: nothing is known of it. -/
theorem witness_FramesAreRecorded : Accepts 7 (running .running) ∧ PeersLawful (running .running) ∧
    (after (.replyFrame 7 9 0 0 []) (running .running)).peers.map (fun e => (e.station, e.need, e.paceAge)) =
      [(.unknown, none, 65535)] :=
  ⟨by decide +kernel, by constructor <;> decide +kernel, by decide +kernel⟩

/-- A HALT, a GO and a COMMAND with the node's own address: no halt, no move, no reply. -/
theorem witness_OwnAddressIsAClash : (running .running).startup.address = 3 ∧ (3 : Addr) ≠ 0 ∧
    (running .running).drive.permanent = false ∧
    (∀ i ∈ [Instr.haltFrame 3 7, .go 3 5 false, .save { someone with sender := 3 } []],
      frameSender i = some (running .running).startup.address ∧
      (after i (running .running)).drive.faultCause = some .addressClash ∧
      answers (after i (running .running)) = []) := by decide +kernel

theorem witness_CommandsAreGatedByState : Taken someone (waking true) ∧ Taken someone (node panConfig .setup 0) ∧
    Accepts 9 (node panConfig .parked 0) ∧ Taken someone (node panConfig .live 0) ∧
    answers (after (.markRead someone [10]) (node panConfig .live 0)) = [(.badArg, [])] ∧
    (List.replicate 4 (⟨9, 0, .ok, []⟩ : Reply)).length = 4 := by decide +kernel

/-- A HALT frame in reset, a PARK while loading, and the pin's level. -/
theorem witness_CommandsAreGatedByState_early : State.reset.startup.phase ≠ .running ∧
    (loading 3 false).startup.phase ≠ .running ∧ after (.haltFrame 9 7) State.reset = State.reset ∧
    after (.park someone []) (loading 3 false) = loading 3 false ∧
    (after (.stopInputChange true) State.reset).stopInput = true := by decide +kernel

theorem witness_MarkOpenStagesACopy : Taken someone (node panConfig .live 0) ∧ TakesMarkCommands .live ∧
    markOf 63 = some 63 ∧ markOf 64 = none := by decide +kernel

theorem witness_MarkSetStagesAField : Taken someone editing ∧ TakesMarkCommands editing.control.axisState ∧
    editing.startup.config = some panConfig ∧ editing.marks.edit.isSome = true := by decide +kernel

/-- The bounds of R1's ranges and codes. -/
theorem witness_MarkSetStagesAField_bounds :
    let set (f : MarkField) (v : Int) := (setMarkField (-9) 9 (markTo 0 3000) f v).map fun m => markFieldValue m f
    set .position 10 = some 9 ∧ set .duration 99 = some 100 ∧ set .duration 600001 = some 600000 ∧
    set .ease 2 = some 2 ∧ set .ease 3 = none ∧ set .share 4097 = some 4096 ∧ set .next 63 = some 63 ∧
    set .next 64 = none ∧ set .next 255 = some 255 ∧ set .next (-1) = none ∧ set .repeats 0 = some 1 ∧
    set .repeats 256 = some 255 ∧ set .stop 2 = none ∧ set .endAction 2 = none := by decide +kernel

theorem witness_CloseAndEraseChangeOneSlot : Taken someone editing ∧
    TakesMarkCommands editing.control.axisState ∧ editing.marks.edit.isSome = true ∧
    answers (after (.markErase someone [13]) editing) = [(.locked, [])] ∧
    answers (after (.markClose someone [2]) editing) = [(.badArg, [])] := by decide +kernel

theorem witness_MarkReadReadsTheTable : Taken someone (node panConfig .live 0) ∧
    (node panConfig .live 0).marks.table[10].record.isSome = true ∧
    answers (after (.markRead someone [63, 10]) (node panConfig .live 0)) = [(.empty, [0])] ∧
    answers (after (.markRead someone [63, 11]) (node panConfig .live 0)) = [(.badArg, [])] := by decide +kernel

/-- A save in its first slot and in its last. -/
theorem witness_SaveWritesEverySlotInTurn :
    let s := node panConfig .live 0
    let saving (n : MarkNo) : State := { s with marks := { s.marks with save := some ⟨n, 5⟩ } }
    Taken someone s ∧ (saving 63).marks.save = some ⟨63, 5⟩ ∧
    (after .saveSlotWriteEnd (saving 63)).marks.save = none ∧
    (after .saveSlotWriteEnd (saving 62)).marks.save = some ⟨63, 0⟩ := by decide +kernel

theorem witness_PeerReadReadsAnEntry : Taken someone (node panConfig .live 0) ∧
    answers (after (.peerRead someone [31]) (node panConfig .live 0)) = [(.empty, [])] ∧
    answers (after (.peerRead someone [32]) (node panConfig .live 0)) = [(.badArg, [])] ∧
    answers (after (.peerRead someone [3]) (node panConfig .live 0)) = [(.badArg, [])] := by decide +kernel

theorem witness_IdleLineSendsTheLowestIdentifier :
    (∀ h, (node panConfig .live 0).bus.inHand = some h → h.sending = false) ∧
    after .frameSendStart (node panConfig .live 0) = node panConfig .live 0 :=
  ⟨fun _ hh => (by cases hh), by decide +kernel⟩

/-- The seventh echo error and the eighth. -/
theorem witness_LineEventsEndAFrame : (sendingFrame .pace 6).bus.inHand = some ⟨.pace, true, false⟩ ∧
    (after .echoError (sendingFrame .pace 6)).bus.echoErrors = 7 ∧
    (after .echoError (sendingFrame .pace 7)).control.axisState = .fault ∧
    (after .frameSentIntact (sendingFrame .pace 7)).bus.echoErrors = 0 := by decide +kernel

theorem witness_SentFramesAreReadBack : 1024 < 65536 ∧ (-2 ^ 31 : Int) ≤ -3000000 ∧ (3000000 : Int) < 2 ^ 31 ∧
    ([1, 2, 3, 4, 5] : List Byte).length ≤ 5 := by decide

/-- A state in a run, with a command to take: the step laws have a state to hold of. -/
def stepping : State := { armed 8 (running .running) with pending := [.hold 9 5] }

theorem witness_step : Machine.step stepping = .next (after (.hold 9 5) { stepping with pending := [] }) := rfl

theorem witness_StepKeepsRecordsFit : RecordsFit stepping := by constructor <;> decide +kernel

theorem witness_StepKeepsStopAndEnable : StopRespected stepping ∧ EnableLawful stepping :=
  ⟨by decide +kernel, by constructor <;> decide +kernel⟩

theorem witness_StepKeepsPaceAndBlendBounded : PaceBounded stepping ∧ BlendAtRest stepping :=
  ⟨by decide +kernel, by
    constructor
    · decide +kernel
    · decide +kernel
    · decide +kernel
    · intro c hc; cases hc; decide +kernel⟩

theorem witness_StepKeepsPaceAndBlendBounded_weights : WeightsBounded stepping := by
  have table : ∀ n : MarkNo, stepping.marks.table[n].record.all (fun m => decide (m.share ≤ fullWeight)) := by
    decide +kernel
  have saved : ∀ n : MarkNo, stepping.nonvolatile.slots[n].record = none := by decide +kernel
  constructor
  · decide +kernel
  · decide +kernel
  · intro r hr; cases hr; decide +kernel
  · intro a ha; cases ha; decide +kernel
  · intro r hr; cases hr
  · intro n m hm; have h := table n; rw [hm] at h; exact of_decide_eq_true h
  · intro n m hm; exact absurd ((saved n).symm.trans hm) nofun
  · intro e he; cases he

theorem witness_StepKeepsSetpointsWithin : SetpointsWithin stepping := by
  constructor
  · intro c hc; cases hc; decide +kernel
  · intro c hc; cases hc
  · intro w hw; cases hw
  · decide +kernel
  · decide +kernel
  · decide +kernel
  · decide +kernel
  · intro c h hc hh; cases hc; cases hh; decide +kernel
  · intro c x hc hx; cases hc; cases hx; decide +kernel

theorem witness_StepKeepsQueueAndEditBounds : BusBounded stepping ∧ EditExcludesSave stepping := by
  decide +kernel

theorem witness_StepKeepsPeersLawful : PeersLawful stepping := by constructor <;> decide +kernel

/-- A step that would erase a mark of the run's chain. -/
theorem witness_ChainSetsKeepTheirMarks : HeldInAChain stepping.control 13 ∧
    stepping.pending.head? ≠ some .reset ∧
    answers (after (.markErase someone [13]) stepping) = [(.busy, [])] := by decide +kernel

theorem witness_ChainSetsKeepTheirMarks_law : NoChainInSetup stepping :=
  ⟨by decide +kernel, by decide +kernel⟩

end Sys2Proof.Machine.Tests
end

section
/-! ## What a step can do

Every step is one of few shapes: a reset or load event, an event of the running node, a received frame, a COMMAND.
Each law over all steps is then a fact about the operations listed here, and about nothing else. -/

namespace Sys2Proof.Machine

/-- The operations that events of a running node do, by a command of the table or as a millisecond passes. -/
inductive Event : (State → State) → Prop
  | update : Event update
  | paceInterval : Event paceInterval
  | driveLost : Event driveLostEvent
  | following : Event followingEvent
  | feedback (f : FeedbackRecord) : Event (takeFeedback f)
  | stopChange (active : Bool) : Event (stopChange active)
  | settle : Event settleExpiry
  | armExpiry : Event armExpiry
  | staleDemand : Event staleDemand
  | staleDial : Event staleDial
  | releaseChannel (ch : Channel) : Event (releaseChannel ch)
  | grab : Event grabExpiry
  | losePeer (a : Addr) : Event (losePeer a)
  | lease : Event leaseEnd
  | slotWrite : Event slotWriteEnd
  | configWrite : Event configWriteEnd
  | stateInterval : Event stateInterval
  | sendStart : Event startFrame
  | lostContention : Event loseContention
  | echoError : Event takeEchoError
  | drop : Event dropEvent
  | sentIntact : Event frameSent
  | clash : Event reportClash

/-- The operations that received frames do once their sender is recorded. -/
inductive Handling : (State → State) → Prop
  | recordOnly : Handling id
  | halt (code : Byte) : Handling (takeHalt code)
  | arm (cue : CueNo) (first : MarkNo) : Handling (takeArm cue first)
  | go (cue : CueNo) (nest : Bool) : Handling (takeGo cue nest)
  | hold (cue : CueNo) : Handling (takeHold cue)
  | resume (cue : CueNo) : Handling (takeResume cue)
  | abort (cue : CueNo) : Handling (takeAbort cue)
  | returnCue (cue : CueNo) (duration : Nat) : Handling (takeReturn cue duration)
  | demand (sender : Addr) (p : DemandPayload) : Handling (takeDemandFrame sender p)
  | pace (sender : Addr) (p : PacePayload) : Handling (leaveCounted sender p)
  | poll (target : Option Addr) : Handling (takePoll target)

/-- The owners' answers to the COMMANDs, each with its row of R156. -/
inductive Owner : CommandClass → (State → Answer) → Prop
  | markOpen (h : CommandHeader) (args : List Byte) : Owner .edit (takeMarkOpen h args)
  | markSet (h : CommandHeader) (args : List Byte) : Owner .edit (takeMarkSet h args)
  | markClose (h : CommandHeader) (args : List Byte) : Owner .edit (takeMarkClose h args)
  | markErase (args : List Byte) : Owner .edit (takeMarkErase args)
  | markRead (args : List Byte) : Owner .read (takeMarkRead args)
  | save : Owner .edit takeSave
  | park : Owner .park takePark
  | wake : Owner .wake takeWake
  | clear : Owner .clear takeClear
  | peerRead (args : List Byte) : Owner .read (takePeerRead args)
  | configSet (args : List Byte) : Owner .config (takeConfigSet args)
  | configDone : Owner .config takeConfigDone
  | unknown : Owner .unknown (refuse .unknown)

/-- What a command comes to in a state. -/
inductive Effect (s : State) : Instr → State → Prop
  | reset : Effect s .reset (resetNode s)
  | release (c : Instr) (address : Addr) (strap : Bool) : Effect s c (releaseReset address strap s)
  | loaded (c : Instr) : Effect s c (loadingEnd s)
  | pin (c : Instr) (active : Bool) (early : s.startup.phase ≠ .running) :
      Effect s c { s with stopInput := active }
  | nothing (c : Instr) : Effect s c s
  | event (c : Instr) {f : State → State} (e : Event f) (running : s.startup.phase = .running) :
      Effect s c (f s)
  | frame (c : Instr) {a : Addr} {record : PeerEntry → PeerEntry} {f : State → State} (e : Handling f)
      (same : ∀ x, (record x).address = x.address) (accepted : Accepts a s) :
      Effect s c (f (hear a record s))
  | refused (c : Instr) (h : CommandHeader) (r : Result) (accepted : Accepts h.sender s)
      (room : s.bus.replies.length < replyRoom) :
      Effect s c (sendReply h r [] (heardFrom h.sender s))
  | answered (c : Instr) (h : CommandHeader) {k : CommandClass} {act : State → Answer} (o : Owner k act)
      (accepted : Accepts h.sender s) (open_ : gate k s.control.axisState = none)
      (room : s.bus.replies.length < replyRoom) :
      Effect s c (sendReply h (act (heardFrom h.sender s)).result (act (heardFrom h.sender s)).data
        (act (heardFrom h.sender s)).state)

theorem effect_whenRunning (c : Instr) {f : State → State} (e : Event f) (s : State) :
    Effect s c (whenRunning f s) := by
  unfold whenRunning
  split
  · exact .event c e ‹_›
  · exact .nothing c

theorem effect_receive (c : Instr) (record : PeerEntry → PeerEntry) {f : State → State} (e : Handling f)
    (same : ∀ x, (record x).address = x.address) (a : Addr) (s : State) :
    Effect s c (receive a record f s) := by
  by_cases running : s.startup.phase = .running
  · by_cases own : a = s.startup.address ∧ a ≠ 0
    · obtain ⟨rfl, ha⟩ := own
      rw [receive_own running ha]
      exact .event c .clash running
    · have accepted : Accepts a s := ⟨running, by tauto⟩
      rw [receive_accepts accepted]
      exact .frame c e same accepted
  · rw [receive_early running]
    exact .nothing c

theorem effect_command (c : Instr) (h : CommandHeader) {k : CommandClass} {act : State → Answer}
    (o : Owner k act) (s : State) : Effect s c (command h k act s) := by
  by_cases running : s.startup.phase = .running
  · by_cases own : h.sender = s.startup.address ∧ h.sender ≠ 0
    · rw [command, own.1, receive_own running (own.1 ▸ own.2)]
      exact .event c .clash running
    · have accepted : Accepts h.sender s := ⟨running, by tauto⟩
      have same : (heardFrom h.sender s).control = s.control := by simp [heardFrom]
      have replies : (heardFrom h.sender s).bus = s.bus := by simp [heardFrom]
      have heard : Effect s c (heardFrom h.sender s) := .frame c .recordOnly (fun _ => rfl) accepted
      rw [command, receive_accepts accepted]
      change Effect s c (answer h k act (heardFrom h.sender s))
      unfold answer
      split
      · exact heard
      · split
        · exact heard
        · rename_i room
          rw [replies, not_le] at room
          rw [same]
          split
          · exact .refused c h _ accepted room
          · exact .answered c h o accepted ‹_› room
  · rw [command, receive_early running]
    exact .nothing c

theorem effect_stopInputChange (c : Instr) (active : Bool) (s : State) :
    Effect s c (stopInputChange active s) := by
  unfold stopInputChange
  split
  · exact .event c (.stopChange active) ‹_›
  · exact .pin c active ‹_›

/-- Every command has one of the effects. -/
theorem exec_effect (c : Instr) (s : State) : ∃ t, exec c s = .next t ∧ Effect s c t :=
  match c with
  | .reset => ⟨_, rfl, .reset⟩
  | .resetRelease address strap => ⟨_, rfl, .release _ address strap⟩
  | .loadingEnd => ⟨_, rfl, .loaded _⟩
  | .update => ⟨_, rfl, effect_whenRunning _ .update s⟩
  | .paceInterval => ⟨_, rfl, effect_whenRunning _ .paceInterval s⟩
  | .driveLost => ⟨_, rfl, effect_whenRunning _ .driveLost s⟩
  | .following => ⟨_, rfl, effect_whenRunning _ .following s⟩
  | .feedbackRecord _ _ _ => ⟨_, rfl, effect_whenRunning _ (.feedback _) s⟩
  | .stopInputChange active => ⟨_, rfl, effect_stopInputChange _ active s⟩
  | .settleTimerExpiry => ⟨_, rfl, effect_whenRunning _ .settle s⟩
  | .armExpiry => ⟨_, rfl, effect_whenRunning _ .armExpiry s⟩
  | .demandStale => ⟨_, rfl, effect_whenRunning _ .staleDemand s⟩
  | .channelRelease ch => ⟨_, rfl, effect_whenRunning _ (.releaseChannel ch) s⟩
  | .grab => ⟨_, rfl, effect_whenRunning _ .grab s⟩
  | .peerLost a => ⟨_, rfl, effect_whenRunning _ (.losePeer a) s⟩
  | .leaseExpiry => ⟨_, rfl, effect_whenRunning _ .lease s⟩
  | .saveSlotWriteEnd => ⟨_, rfl, effect_whenRunning _ .slotWrite s⟩
  | .configWriteEnd => ⟨_, rfl, effect_whenRunning _ .configWrite s⟩
  | .stateInterval => ⟨_, rfl, effect_whenRunning _ .stateInterval s⟩
  | .haltFrame a code => ⟨_, rfl, effect_receive _ recordAny (.halt code) (fun _ => rfl) a s⟩
  | .arm a cue first => ⟨_, rfl, effect_receive _ recordAny (.arm cue first) (fun _ => rfl) a s⟩
  | .go a cue nest => ⟨_, rfl, effect_receive _ recordAny (.go cue nest) (fun _ => rfl) a s⟩
  | .hold a cue => ⟨_, rfl, effect_receive _ recordAny (.hold cue) (fun _ => rfl) a s⟩
  | .resume a cue => ⟨_, rfl, effect_receive _ recordAny (.resume cue) (fun _ => rfl) a s⟩
  | .abort a cue => ⟨_, rfl, effect_receive _ recordAny (.abort cue) (fun _ => rfl) a s⟩
  | .returnCue a cue d => ⟨_, rfl, effect_receive _ recordAny (.returnCue cue d.toNat) (fun _ => rfl) a s⟩
  | .demandFrame a p => ⟨_, rfl, effect_receive _ recordAny (.demand a p) (fun _ => rfl) a s⟩
  | .paceFrame a p => ⟨_, rfl, effect_receive _ (recordPace p) (.pace a p) (fun _ => rfl) a s⟩
  | .stateFrame a p =>
    ⟨_, rfl, effect_receive _ (recordState p) .recordOnly (fun _ => rfl) a s⟩
  | .replyFrame a _ _ _ _ =>
    ⟨_, rfl, effect_receive _ recordAny .recordOnly (fun _ => rfl) a s⟩
  | .poll a target => ⟨_, rfl, effect_receive _ recordAny (.poll target) (fun _ => rfl) a s⟩
  | .markOpen h args => ⟨_, rfl, effect_command _ h (.markOpen h args) s⟩
  | .markSet h args => ⟨_, rfl, effect_command _ h (.markSet h args) s⟩
  | .markClose h args => ⟨_, rfl, effect_command _ h (.markClose h args) s⟩
  | .markErase h args => ⟨_, rfl, effect_command _ h (.markErase args) s⟩
  | .markRead h args => ⟨_, rfl, effect_command _ h (.markRead args) s⟩
  | .save h _ => ⟨_, rfl, effect_command _ h .save s⟩
  | .park h _ => ⟨_, rfl, effect_command _ h .park s⟩
  | .wake h _ => ⟨_, rfl, effect_command _ h .wake s⟩
  | .clear h _ => ⟨_, rfl, effect_command _ h .clear s⟩
  | .peerRead h args => ⟨_, rfl, effect_command _ h (.peerRead args) s⟩
  | .configSet h args => ⟨_, rfl, effect_command _ h (.configSet args) s⟩
  | .configDone h _ => ⟨_, rfl, effect_command _ h .configDone s⟩
  | .unknownCommand h _ _ => ⟨_, rfl, effect_command _ h .unknown s⟩
  | .frameSendStart => ⟨_, rfl, effect_whenRunning _ .sendStart s⟩
  | .lostContention => ⟨_, rfl, effect_whenRunning _ .lostContention s⟩
  | .echoError => ⟨_, rfl, effect_whenRunning _ .echoError s⟩
  | .frameDrop => ⟨_, rfl, effect_whenRunning _ .drop s⟩
  | .frameSentIntact => ⟨_, rfl, effect_whenRunning _ .sentIntact s⟩
  | .cueUnknownVerb a _ _ =>
    ⟨_, rfl, effect_receive _ recordAny .recordOnly (fun _ => rfl) a s⟩

/-! ### Operations that touch the drive link, the live demand, the peers or the outbox alone -/

/-- The part of the state that the laws on marks, runs, pace and mix speak of. -/
structure Kernel where
  startup : Startup
  nonvolatile : Nonvolatile
  marks : MarkStore
  control : RunControl
  applied : Nat
  weight : Nat
  weightTarget : Nat
  trim : Int

/-- The kernel of a state. -/
def kernel (s : State) : Kernel :=
  { startup := s.startup, nonvolatile := s.nonvolatile, marks := s.marks, control := s.control,
    applied := s.pace.applied, weight := s.blend.weight, weightTarget := s.blend.weightTarget,
    trim := s.blend.trim }

@[simp] theorem kernel_queueState (s : State) : kernel (queueState s) = kernel s := by simp [kernel]
@[simp] theorem kernel_sendPace (n : Nat) (s : State) : kernel (sendPace n s) = kernel s := by simp [kernel]
@[simp] theorem kernel_queuePace (s : State) : kernel (queuePace s) = kernel s := by simp [kernel]
@[simp] theorem kernel_queueHalt (c : FaultCause) (s : State) : kernel (queueHalt c s) = kernel s := by
  simp [kernel]
@[simp] theorem kernel_hear (a : Addr) (f : PeerEntry → PeerEntry) (s : State) :
    kernel (hear a f s) = kernel s := by simp [kernel]
@[simp] theorem kernel_heardFrom (a : Addr) (s : State) : kernel (heardFrom a s) = kernel s := kernel_hear _ _ s
@[simp] theorem kernel_sendReply (h : CommandHeader) (r : Result) (d : List Byte) (s : State) :
    kernel (sendReply h r d s) = kernel s := rfl

@[simp] theorem kernel_paceInterval (s : State) : kernel (paceInterval s) = kernel s := by
  unfold paceInterval; split <;> simp
@[simp] theorem kernel_paceCheck (s : State) : kernel (paceCheck s) = kernel s := by
  unfold paceCheck; split <;> simp
@[simp] theorem kernel_stateInterval (s : State) : kernel (stateInterval s) = kernel s := by
  unfold stateInterval; split <;> simp
@[simp] theorem kernel_takePoll (target : Option Addr) (s : State) : kernel (takePoll target s) = kernel s := by
  unfold takePoll
  split
  · simp
  · split <;> simp
@[simp] theorem kernel_leaveCounted (a : Addr) (p : PacePayload) (s : State) :
    kernel (leaveCounted a p s) = kernel s := by
  unfold leaveCounted; dsimp only; split <;> rfl
@[simp] theorem kernel_staleDemand (s : State) : kernel (staleDemand s) = kernel s := by
  unfold staleDemand; split <;> rfl
@[simp] theorem kernel_releaseChannel (ch : Channel) (s : State) : kernel (releaseChannel ch s) = kernel s := by
  cases ch <;> rfl
@[simp] theorem kernel_startFrame (s : State) : kernel (startFrame s) = kernel s := by
  unfold startFrame
  split
  · rfl
  · split <;> rfl
@[simp] theorem kernel_loseContention (s : State) : kernel (loseContention s) = kernel s := by
  unfold loseContention
  split
  · split <;> rfl
  · rfl
@[simp] theorem kernel_frameSent (s : State) : kernel (frameSent s) = kernel s := by
  unfold frameSent
  split
  · split <;> rfl
  · rfl

theorem kernel_dialPart (a : Addr) (p : DemandPayload) (s : State) : kernel (dialPart a p s) = kernel s := by
  unfold dialPart
  split
  · split <;> rfl
  · rfl

theorem kernel_demandPart (a : Addr) (p : DemandPayload) (s : State) :
    kernel (demandPart a p s) = kernel s := by
  unfold demandPart
  split
  · split <;> rfl
  · rfl

@[simp] theorem kernel_takeDemandFrame (a : Addr) (p : DemandPayload) (s : State) :
    kernel (takeDemandFrame a p s) = kernel s := by
  unfold takeDemandFrame
  split
  · rfl
  · rw [kernel_dialPart, kernel_demandPart]

/-- A cause reported in FAULT touches the drive link alone (R141). -/
@[simp] theorem kernel_reportInFault (c : FaultCause) (s : State) : kernel (reportInFault c s) = kernel s := by
  unfold reportInFault
  split
  · split
    · rfl
    · rfl
    · rfl
    · split <;> rfl
    · rfl
    · rfl
  all_goals rfl

@[simp] theorem kernel_sendRecord (p : Option (Int × Int)) (s : State) : kernel (sendRecord p s) = kernel s := by
  obtain ⟨x, r, h⟩ := sendRecord_opens p s
  rw [h]; rfl

theorem takeMarkRead_state (args : List Byte) (s : State) : (takeMarkRead args s).state = s := by
  unfold takeMarkRead
  split
  · split
    · dsimp only; split <;> rfl
    · rfl
  · rfl

theorem takePeerRead_state (args : List Byte) (s : State) : (takePeerRead args s).state = s := by
  unfold takePeerRead
  split
  · rfl
  · split
    · rfl
    · split <;> rfl

/-! ### What events and frames leave of the start-up logic and the stores -/

/-- The part of the state that only the mark store and the start-up logic write. -/
structure Stores where
  startup : Startup
  nonvolatile : Nonvolatile
  marks : MarkStore

/-- The stores of a state. -/
def stores (s : State) : Stores := { startup := s.startup, nonvolatile := s.nonvolatile, marks := s.marks }

/-- What keeps the kernel keeps the stores. -/
theorem stores_of_kernel {s t : State} (h : kernel s = kernel t) : stores s = stores t :=
  congrArg (fun k : Kernel => ({ startup := k.startup, nonvolatile := k.nonvolatile, marks := k.marks } : Stores)) h

/-- What keeps the standing part keeps the stores. -/
theorem stores_of_standing {s t : State} (h : standing s = standing t) : stores s = stores t :=
  congrArg (fun k : Standing => ({ startup := k.startup, nonvolatile := k.nonvolatile, marks := k.marks } : Stores)) h

@[simp] theorem stores_enterState (new : AxisState) (s : State) : stores (enterState new s) = stores s := by
  simp [stores]
@[simp] theorem stores_haltNode (c : Cause) (s : State) : stores (haltNode c s) = stores s := by simp [stores]
@[simp] theorem stores_enterLiveAt (x : Int) (s : State) : stores (enterLiveAt x s) = stores s := by
  simp [stores, enterLiveAt]
@[simp] theorem stores_enterWaking (s : State) : stores (enterWaking s) = stores s := by
  simp [stores, enterWaking]
@[simp] theorem stores_parkNode (s : State) : stores (parkNode s) = stores s := by simp [stores, parkNode]
@[simp] theorem stores_clearFault (x : Int) (s : State) : stores (clearFault x s) = stores s := by
  unfold clearFault
  dsimp only
  split
  · split <;> simp [stores, enterLiveAt]
  · split <;> simp [stores, enterLiveAt]
@[simp] theorem stores_reportFault (c : FaultCause) (s : State) : stores (reportFault c s) = stores s :=
  stores_of_standing (by simp)
@[simp] theorem stores_reportDrive (c : FaultCause) (s : State) : stores (reportDrive c s) = stores s :=
  stores_of_standing (by simp)
@[simp] theorem stores_startRun (a : ArmRecord) (k : List RunContext) (s : State) :
    stores (startRun a k s) = stores s := stores_of_standing (standing_of_steady (by simp))
@[simp] theorem stores_takeGrab (s : State) : stores (takeGrab s) = stores s :=
  stores_of_standing (standing_of_steady (by simp))
@[simp] theorem stores_takeCountedLoss (s : State) : stores (takeCountedLoss s) = stores s :=
  stores_of_standing (standing_of_steady (by simp))
@[simp] theorem stores_cueAnswer (r : CueResult) (s : State) : stores (cueAnswer r s) = stores s := rfl

theorem stores_takeFeedback (f : FeedbackRecord) (s : State) : stores (takeFeedback f s) = stores s := by
  unfold takeFeedback capture
  split
  · split
    · dsimp only
      split
      · split
        · split
          · rfl
          · rw [stores_reportFault]; rfl
        · rfl
      · rfl
    · rfl
  · rfl

theorem stores_stopChange (active : Bool) (s : State) : stores (stopChange active s) = stores s := by
  unfold stopChange
  dsimp only
  split
  · rfl
  · split
    · split
      · rw [stores_haltNode]; rfl
      · rfl
    · split
      · rw [stores_enterLiveAt]; rfl
      · rfl

theorem stores_settleExpiry (s : State) : stores (settleExpiry s) = stores s := by
  unfold settleExpiry
  split
  · split
    · simp
    · split
      · rw [stores_enterState]; rfl
      · simp
  · rfl

theorem stores_armExpiry (s : State) : stores (armExpiry s) = stores s := by
  unfold armExpiry
  split
  · dsimp only
    split
    · rw [stores_enterState]; rfl
    · rfl
  · rfl

theorem stores_grabExpiry (s : State) : stores (grabExpiry s) = stores s := by
  unfold grabExpiry
  split
  · rw [stores_takeGrab]; rfl
  · rfl

theorem stores_losePeer (a : Addr) (s : State) : stores (losePeer a s) = stores s := by
  unfold losePeer
  split
  · dsimp only
    split
    · rw [stores_takeCountedLoss]; rfl
    · rfl
  · rfl

theorem stores_reportClash (s : State) : stores (reportClash s) = stores s := by
  unfold reportClash
  split
  · rfl
  · rfl
  · rw [stores_reportFault]; rfl

theorem stores_dropFrame (h : InHand) (s : State) : stores (dropFrame h s) = stores s := by
  rw [dropFrame, stores_reportFault]; rfl

theorem stores_dropEvent (s : State) : stores (dropEvent s) = stores s := by
  unfold dropEvent
  split
  · rw [stores_dropFrame]; rfl
  · rfl

theorem stores_takeEchoError (s : State) : stores (takeEchoError s) = stores s := by
  unfold takeEchoError
  split
  · split
    · dsimp only
      split
      · rw [stores_dropFrame]; rfl
      · rfl
    · rfl
  · rfl

/-- Of a node's events only the lease's end, a slot's write and the configuration write touch a store. -/
theorem Event.stores {f : State → State} (e : Event f) (s : State) : Machine.stores (f s) = Machine.stores s ∨
    f = leaseEnd ∨ f = slotWriteEnd ∨ f = configWriteEnd := by
  cases e with
  | lease => exact .inr (.inl rfl)
  | slotWrite => exact .inr (.inr (.inl rfl))
  | configWrite => exact .inr (.inr (.inr rfl))
  | update => exact .inl (stores_of_standing (by simp))
  | paceInterval => exact .inl (stores_of_kernel (by simp))
  | driveLost => exact .inl (stores_reportDrive _ _)
  | following => exact .inl (stores_reportDrive _ _)
  | feedback r => exact .inl (stores_takeFeedback r s)
  | stopChange active => exact .inl (stores_stopChange active s)
  | settle => exact .inl (stores_settleExpiry s)
  | armExpiry => exact .inl (stores_armExpiry s)
  | staleDemand => exact .inl (stores_of_kernel (by simp))
  | staleDial => exact .inl rfl
  | releaseChannel ch => exact .inl (stores_of_kernel (by simp))
  | grab => exact .inl (stores_grabExpiry s)
  | losePeer a => exact .inl (stores_losePeer a s)
  | stateInterval => exact .inl (stores_of_kernel (by simp))
  | sendStart => exact .inl (stores_of_kernel (by simp))
  | lostContention => exact .inl (stores_of_kernel (by simp))
  | echoError => exact .inl (stores_takeEchoError s)
  | drop => exact .inl (stores_dropEvent s)
  | sentIntact => exact .inl (stores_of_kernel (by simp))
  | clash => exact .inl (stores_reportClash s)

theorem stores_takeHalt (code : Byte) (s : State) : stores (takeHalt code s) = stores s := by
  unfold takeHalt; split <;> simp

theorem stores_takeArm (cue : CueNo) (first : MarkNo) (s : State) : stores (takeArm cue first s) = stores s := by
  unfold takeArm
  split
  · rfl
  · split
    iterate 5 rfl
    split
    · rfl
    · rfl
    · dsimp only
      split
      · simp [stores]
      · simp [stores]
      · rfl

theorem stores_goRun (k : List RunContext) (s : State) : stores (goRun k s) = stores s := by
  unfold goRun; split <;> simp

theorem stores_goPending (nest : Bool) (s : State) : stores (goPending nest s) = stores s := by
  unfold goPending
  split
  · split
    · rfl
    · exact stores_goRun _ s
  · exact stores_goRun _ s

theorem stores_takeGo (cue : CueNo) (nest : Bool) (s : State) : stores (takeGo cue nest s) = stores s := by
  have continued : stores (continueRun s) = stores s := stores_of_standing (standing_of_steady (by simp))
  have answered : stores (if armedFor cue s.control then goRun [] s else cueAnswer .missed s) = stores s := by
    split
    · exact stores_goRun _ s
    · rfl
  have pending : stores (if armedFor cue s.control then goPending nest s
      else if waitsForGo cue s.control then continueRun s else cueAnswer .missed s) = stores s := by
    split
    · exact stores_goPending nest s
    · split
      · exact continued
      · rfl
  unfold takeGo
  split
  · rfl
  · split
    iterate 5 rfl
    · exact answered
    · split
      · exact stores_goRun _ s
      · rw [stores_enterState]; rfl
    · exact answered
    all_goals exact pending

theorem stores_takeHold (cue : CueNo) (s : State) : stores (takeHold cue s) = stores s := by
  unfold takeHold
  split
  iterate 10 rfl
  split
  · rw [stores_enterState]; rfl
  · rfl

theorem stores_takeResume (cue : CueNo) (s : State) : stores (takeResume cue s) = stores s := by
  unfold takeResume
  split
  · split <;> simp
  · rfl

theorem stores_takeAbort (cue : CueNo) (s : State) : stores (takeAbort cue s) = stores s := by
  have dropped (b : Bool) : stores (if b then { s with control.arm := none } else s) = stores s := by
    split <;> rfl
  have run : stores (if cueMatches cue (s.control.run.map (·.cue)) then haltNode .abort s
      else if cueMatches cue (s.control.arm.map (·.cue)) then { s with control.arm := none } else s) =
      stores s := by
    split
    · simp
    · exact dropped _
  unfold takeAbort
  dsimp only
  split
  iterate 4 exact run
  · split
    · rw [stores_enterState]; rfl
    · rfl
  · exact dropped _
  · rfl

theorem stores_takeReturn (cue : CueNo) (d : Nat) (s : State) : stores (takeReturn cue d s) = stores s := by
  have back : stores (if cueMatches cue (ownCue s.control) then
      match s.control.stack with
      | [] => cueAnswer .noReturn s
      | top :: rest => popRun d top rest s
    else s) = stores s := by
    split
    · split
      · rfl
      · exact stores_of_standing (standing_of_steady (by simp))
    · rfl
  unfold takeReturn
  split
  iterate 7 rfl
  · split <;> rfl
  all_goals exact back

/-- No received frame but a COMMAND touches a store. -/
theorem Handling.stores {f : State → State} (e : Handling f) (s : State) :
    Machine.stores (f s) = Machine.stores s := by
  cases e with
  | recordOnly => rfl
  | halt code => exact stores_takeHalt code s
  | arm cue first => exact stores_takeArm cue first s
  | go cue nest => exact stores_takeGo cue nest s
  | hold cue => exact stores_takeHold cue s
  | resume cue => exact stores_takeResume cue s
  | abort cue => exact stores_takeAbort cue s
  | returnCue cue d => exact stores_takeReturn cue d s
  | demand a p => exact stores_of_kernel (by simp)
  | pace a p => exact stores_of_kernel (by simp)
  | poll target => exact stores_of_kernel (by simp)

theorem slotWriteEnd_startup (s : State) : (slotWriteEnd s).startup = s.startup := by
  unfold slotWriteEnd
  split
  · rfl
  · dsimp only; split <;> rfl

/-- No event ends or begins a reset. -/
theorem Event.phase {f : State → State} (e : Event f) (s : State) : (f s).startup.phase = s.startup.phase := by
  rcases e.stores s with h | rfl | rfl | rfl
  · exact congrArg (·.startup.phase) h
  · rfl
  · rw [slotWriteEnd_startup]
  · unfold configWriteEnd
    split
    · rfl
    · dsimp only
      exact congrArg (·.startup.phase) (stores_enterWaking _)

/-! ### A law over all steps -/

/-- A predicate that every operation of the node keeps. -/
structure KeptByNode (P : State → Prop) : Prop where
  queue : ∀ q s, P s → P { s with pending := q }
  reset : ∀ s, P s → P (resetNode s)
  release : ∀ address strap s, P s → P (releaseReset address strap s)
  loading : ∀ n m s, s.startup.phase = .loading n → P s → P { s with startup.phase := .loading m }
  loaded : ∀ s, P s → P (loadingEnd s)
  pin : ∀ active s, s.startup.phase ≠ .running → P s → P { s with stopInput := active }
  aged : ∀ s, s.startup.phase = .running → P s → P (ageAll s)
  event : ∀ f, Event f → ∀ s, s.startup.phase = .running → P s → P (f s)
  heard : ∀ a record s, Accepts a s → (∀ e : PeerEntry, (record e).address = e.address) →
    P s → P (hear a record s)
  handled : ∀ f, Handling f → ∀ s, s.startup.phase = .running → P s → P (f s)
  refused : ∀ h r s, s.bus.replies.length < replyRoom → P s → P (sendReply h r [] s)
  answered : ∀ k act, Owner k act → ∀ h s, s.startup.phase = .running →
    gate k s.control.axisState = none → s.bus.replies.length < replyRoom → P s →
    P (sendReply h (act s).result (act s).data (act s).state)

/-- A law of the events of a running node, and of the ageing, is a law of its idle millisecond. -/
theorem running_tick_keeps {P : State → Prop} (aged : ∀ s, s.startup.phase = .running → P s → P (ageAll s))
    (event : ∀ f, Event f → ∀ s, s.startup.phase = .running → P s → P (f s)) {s : State}
    (running : s.startup.phase = .running) (hP : P s) : P (tick s) := by
  let Q (u : State) : Prop := u.startup.phase = .running ∧ P u
  have due {f : State → State} (e : Event f) (d : State → Bool) {u : State} (h : Q u) : Q (whenDue d f u) := by
    unfold whenDue
    split
    · exact ⟨(e.phase u).trans h.1, event f e u h.1 h.2⟩
    · exact h
  have lost (l : List Addr) {u : State} (h : Q u) : Q (l.foldl (fun s a => losePeer a s) u) :=
    List.foldlRecOn l _ h fun u hu a _ =>
      ⟨(Event.phase (.losePeer a) u).trans hu.1, event _ (.losePeer a) u hu.1 hu.2⟩
  have start : Q (ageAll s) := ⟨running, aged s running hP⟩
  have control : Q (dueControl (ageAll s)) := due .armExpiry _ (due .settle _ start)
  have heard : Q (dueHeard (dueControl (ageAll s))) :=
    due .grab _ (lost _ (due (.releaseChannel .dial) _ (due (.releaseChannel .demand) _
      (due .staleDial _ (due .staleDemand _ control)))))
  have stored : Q (dueStores (dueHeard (dueControl (ageAll s)))) :=
    due .configWrite _ (due .slotWrite _ (due .lease _ heard))
  have clocks : Q (dueClocks (dueStores (dueHeard (dueControl (ageAll s))))) :=
    due .update _ (due .stateInterval _ stored)
  rw [tick, running]
  exact clocks.2

/-- A predicate that every operation keeps is kept by every step. -/
theorem KeptByNode.step {P : State → Prop} (K : KeptByNode P) {s t : State} (hP : P s)
    (h : Machine.step s = .next t) : P t := by
  rcases hq : s.pending with _ | ⟨c, rest⟩
  · obtain rfl : tick s = t := Host.Outcome.next.inj (by rw [← h, Machine.step, hq])
    rcases hp : s.startup.phase with _ | n | _
    · rw [tick, hp]; exact hP
    · rw [tick, hp]
      dsimp only
      split
      · exact K.loaded s hP
      · exact K.loading n (n + 1) s hp hP
    · exact running_tick_keeps K.aged K.event hp hP
  · rw [Machine.step, hq] at h
    have hP' : P { s with pending := rest } := K.queue rest s hP
    obtain ⟨u, hu, e⟩ := exec_effect c { s with pending := rest }
    obtain rfl : u = t := Host.Outcome.next.inj (hu.symm.trans h)
    cases e with
    | reset => exact K.reset _ hP'
    | release _ a b => exact K.release a b _ hP'
    | loaded => exact K.loaded _ hP'
    | pin _ active early => exact K.pin active _ early hP'
    | nothing => exact hP'
    | event _ e running => exact K.event _ e _ running hP'
    | frame _ e same accepted =>
      exact K.handled _ e _ (by simpa using accepted.1) (K.heard _ _ _ accepted same hP')
    | refused _ head r accepted room =>
      exact K.refused head r _ (by simpa [heardFrom] using room)
        (K.heard _ _ _ accepted (fun _ => rfl) hP')
    | answered _ head o accepted gate_open room =>
      exact K.answered _ _ o head _ (by simpa [heardFrom] using accepted.1) (by simpa [heardFrom] using gate_open)
        (by simpa [heardFrom] using room) (K.heard _ _ _ accepted (fun _ => rfl) hP')

end Sys2Proof.Machine
end

section
/-! ## Laws that a change of axis state keeps

Most operations of the node are an edit of run control's records, a change of axis state, and frames queued. A law that
these keep is kept by every arrival, cue, fault and halt. -/

namespace Sys2Proof.Machine

/-- Run control without a record that was not there before: a run, an arm record or a stack is kept with its share and
chain set, or dropped. -/
structure NoNewRecords (c d : RunControl) : Prop where
  axisState : d.axisState = c.axisState
  run : ∀ r', d.run = some r' → ∃ r, c.run = some r ∧ r'.share = r.share ∧ r'.chainSet = r.chainSet
  arm : ∀ a', d.arm = some a' → ∃ a, c.arm = some a ∧ a'.share = a.share ∧ a'.chainSet = a.chainSet
  stack : ∀ r ∈ d.stack, r ∈ c.stack

theorem noNewRecords_of_eq {c d : RunControl} (state : d.axisState = c.axisState) (run : d.run = c.run)
    (arm : d.arm = c.arm) (stack : d.stack = c.stack) : NoNewRecords c d where
  axisState := state
  run r' h := ⟨r', run ▸ h, rfl, rfl⟩
  arm a' h := ⟨a', arm ▸ h, rfl, rfl⟩
  stack _ h := stack ▸ h

/-- A run rewritten with its share and chain set. -/
theorem noNewRecords_run {c : RunControl} {r r' : RunContext} (h : c.run = some r) (share : r'.share = r.share)
    (set : r'.chainSet = r.chainSet) : NoNewRecords c { c with run := some r' } where
  axisState := rfl
  run _ h' := ⟨r, h, by cases h'; exact ⟨share, set⟩⟩
  arm a' h := ⟨a', h, rfl, rfl⟩
  stack _ h := h

/-- A predicate that the changes of axis state, and what goes before them, keep. -/
structure KeptByChanges (P : State → Prop) : Prop where
  congr : ∀ {s t}, P s → kernel s = kernel t → P t
  edit : ∀ c s, NoNewRecords s.control c → P s → P { s with control := c }
  enter : ∀ new s, new ≠ .setup → new ≠ .armed → s.control.axisState ≠ .setup → P s →
    P (changeState new s)
  untarget : ∀ s, P s → P { s with blend := { s.blend with weightTarget := 0 } }
  unmix : ∀ s, P s → P { s with blend := { s.blend with trim := 0, weight := 0 } }

namespace KeptByChanges

variable {P : State → Prop}

/-! ### Changes of axis state -/

theorem haltNode (K : KeptByChanges P) (cause : Cause) {s : State} (hn : s.control.axisState ≠ .setup)
    (h : P s) : P (haltNode cause s) :=
  K.enter _ _ nofun nofun hn (K.edit _ s (noNewRecords_of_eq rfl rfl rfl rfl) h)

theorem readStop (K : KeptByChanges P) (old : AxisState) {s : State} (hn : s.control.axisState ≠ .setup)
    (h : P s) : P (readStop old s) := by
  rcases readStop_cases old s with e | ⟨-, -, -, e⟩
  · rwa [e]
  · rw [e]; exact K.haltNode _ hn h

theorem enterState (K : KeptByChanges P) {new : AxisState} {s : State} (h1 : new ≠ .setup) (h2 : new ≠ .armed)
    (hn : s.control.axisState ≠ .setup) (h : P s) : P (enterState new s) :=
  K.readStop _ (by simpa using h1) (K.enter new s h1 h2 hn h)

/-- A run that starts: RUNNING is told with its PACE frame, and the stop input is read (R43, R49, R139). -/
theorem launched (K : KeptByChanges P) (old : AxisState) {s : State} (h : P (changeState .running s)) :
    P (Machine.readStop old (queuePace (changeState .running s))) :=
  K.readStop _ (by simp) (K.congr h (kernel_queuePace _).symm)

theorem enterLiveAt (K : KeptByChanges P) (x : Int) {s : State} (hn : s.control.axisState ≠ .setup) (h : P s) :
    P (enterLiveAt x s) :=
  K.enterState nofun nofun hn (K.congr h rfl)

theorem enterWaking (K : KeptByChanges P) {s : State} (hn : s.control.axisState ≠ .setup) (h : P s) :
    P (enterWaking s) :=
  K.enterState nofun nofun hn
    (K.congr (K.edit { s.control with settle := some 0 } s (noNewRecords_of_eq rfl rfl rfl rfl) h) rfl)

/-! ### Faults -/

theorem enterFault (K : KeptByChanges P) (cause : FaultCause) {s : State} (hn : s.control.axisState ≠ .setup)
    (h : P s) : P (enterFault cause s) := by
  unfold Machine.enterFault
  refine K.congr (K.enter .fault _ nofun nofun ?_ (K.congr h ?_)) (kernel_queueHalt _ _).symm
  · exact hn
  · rfl

theorem reportFault (K : KeptByChanges P) (cause : FaultCause) {s : State} (h : P s) : P (reportFault cause s) := by
  unfold Machine.reportFault
  split
  · exact h
  · exact h
  · exact K.congr h (kernel_reportInFault _ _).symm
  · exact K.enterFault cause (by assumption) h

theorem reportDrive (K : KeptByChanges P) (cause : FaultCause) {s : State} (h : P s) : P (reportDrive cause s) := by
  unfold Machine.reportDrive
  split
  · exact K.reportFault cause h
  · exact h

theorem closeExchange (K : KeptByChanges P) (c : Configuration) {s : State} (h : P s) : P (closeExchange c s) := by
  have closed : P { s with drive := { s.drive with
      missed := (closedCounts c s.drive).1, following := (closedCounts c s.drive).2, exchange := none } } :=
    K.congr h rfl
  unfold Machine.closeExchange
  dsimp only
  split
  · split
    · exact K.reportDrive _ (K.reportDrive _ closed)
    · exact K.reportDrive _ closed
  · split
    · exact K.reportDrive _ closed
    · exact closed

theorem exchangeStage (K : KeptByChanges P) (c : Configuration) (p : Option (Int × Int)) {s : State} (h : P s) :
    P (exchangeStage c p s) :=
  K.congr (K.closeExchange c h) (kernel_sendRecord _ _).symm

theorem dropFrame (K : KeptByChanges P) (x : InHand) {s : State} (h : P s) : P (dropFrame x s) :=
  K.reportFault _ (K.congr h rfl)

theorem takeEchoError (K : KeptByChanges P) {s : State} (h : P s) : P (takeEchoError s) := by
  unfold Machine.takeEchoError
  split
  · split
    · dsimp only
      split
      · exact K.dropFrame _ (K.congr h rfl)
      · exact K.congr h rfl
    · exact h
  · exact h

theorem dropEvent (K : KeptByChanges P) {s : State} (h : P s) : P (dropEvent s) := by
  unfold Machine.dropEvent
  split
  · exact K.dropFrame _ (K.congr h rfl)
  · exact h

theorem reportClash (K : KeptByChanges P) {s : State} (h : P s) : P (reportClash s) := by
  unfold Machine.reportClash
  split
  · exact h
  · exact h
  · exact K.reportFault _ (K.congr h rfl)

/-! ### The drive, the stop input, the settle timer and CLEAR -/

theorem takeFeedback (K : KeptByChanges P) (f : FeedbackRecord) {s : State} (h : P s) : P (takeFeedback f s) := by
  unfold Machine.takeFeedback capture
  split
  · split
    · dsimp only
      split
      · split
        · split
          · exact K.congr (K.unmix s h) rfl
          · exact K.reportFault _ (K.congr h rfl)
        · exact K.congr h rfl
      · exact K.congr h rfl
    · exact h
  · exact h

theorem stopChange (K : KeptByChanges P) (active : Bool) {s : State} (h : P s) : P (stopChange active s) := by
  have level : P { s with stopInput := active } := K.congr h rfl
  unfold Machine.stopChange
  dsimp only
  split
  · exact level
  · split
    · split
      · rename_i hw
        exact K.haltNode _ (by rintro hs; rw [hs] at hw; exact absurd hw nofun) level
      · exact level
    · split
      · rename_i hh
        exact K.enterLiveAt _ (by rw [hh.1]; nofun) level
      · exact level

theorem settleExpiry (K : KeptByChanges P) {s : State} (h : P s) : P (settleExpiry s) := by
  unfold Machine.settleExpiry
  split
  · rename_i hw
    have hn : s.control.axisState ≠ .setup := by rw [hw.1]; nofun
    split
    · exact K.reportFault _ h
    · split
      · exact K.enterState nofun nofun hn (K.congr h rfl)
      · exact K.haltNode _ hn h
  · exact h

theorem clearFault (K : KeptByChanges P) (x : Int) {s : State} (hn : s.control.axisState ≠ .setup) (h : P s) :
    P (clearFault x s) := by
  have chosen {s : State} (hn : s.control.axisState ≠ .setup) (h : P s) : P (if s.stopInput
      then Machine.enterLiveAt x s else Machine.haltNode .stopInput { s with blend.live := some x }) := by
    split
    · exact K.enterLiveAt x hn h
    · exact K.haltNode _ hn (K.congr h rfl)
  unfold Machine.clearFault
  dsimp only
  split
  · exact chosen hn h
  · exact chosen hn (K.congr h rfl)

theorem armExpiry (K : KeptByChanges P) {s : State} (h : P s) : P (armExpiry s) := by
  unfold Machine.armExpiry
  split
  · dsimp only
    have dropped : P { s with control := { s.control with arm := none, cueResult := .expired } } :=
      K.edit _ s ⟨rfl, fun r h => ⟨r, h, rfl, rfl⟩, nofun, fun _ h => h⟩ h
    split
    · rename_i ha
      exact K.enterState nofun nofun (by rw [ha]; nofun) dropped
    · exact dropped
  · exact h

/-! ### Arrivals -/

/-- A law and a state other than SETUP: what holds all along an arrival. -/
def Along (P : State → Prop) (s : State) : Prop := P s ∧ s.control.axisState ≠ .setup

theorem along_enterState (K : KeptByChanges P) {new : AxisState} {s : State} (h1 : new ≠ .setup)
    (h2 : new ≠ .armed) (h : Along P s) : P (Machine.enterState new s) := K.enterState h1 h2 h.2 h.1

theorem along_rerun (K : KeptByChanges P) {r : RunContext} (r' : RunContext) {s : State}
    (hr : s.control.run = some r) (share : r'.share = r.share) (set : r'.chainSet = r.chainSet) (h : Along P s) :
    Along P { s with control := { s.control with run := some r' } } :=
  ⟨K.edit _ s (noNewRecords_run hr share set) h.1, h.2⟩

theorem along_mapRun (K : KeptByChanges P) (f : RunContext → RunContext) (share : ∀ r, (f r).share = r.share)
    (set : ∀ r, (f r).chainSet = r.chainSet) {s : State} (h : Along P s) :
    Along P { s with control := { s.control with run := s.control.run.map f } } := by
  refine ⟨K.edit _ s ⟨rfl, fun r' hr' => ?_, fun a h => ⟨a, h, rfl, rfl⟩, fun _ h => h⟩ h.1, h.2⟩
  obtain ⟨r, hr, rfl⟩ := Option.map_eq_some_iff.mp hr'
  exact ⟨r, hr, share r, set r⟩

theorem along_onSegment (K : KeptByChanges P) (f : Segment → Segment) {s : State} (h : Along P s) :
    Along P (onSegment f s) :=
  K.along_mapRun (fun r => { r with segment := f r.segment }) (fun _ => rfl) (fun _ => rfl) h

theorem along_freezePath (K : KeptByChanges P) {s : State} (h : Along P s) : Along P (freezePath s) :=
  K.along_mapRun (fun r => { r with frozen := true }) (fun _ => rfl) (fun _ => rfl) h

theorem beginSegment (K : KeptByChanges P) (g : Segment) {s : State} (h : Along P s) : P (beginSegment g s) := by
  unfold Machine.beginSegment
  dsimp only
  split
  · exact K.along_enterState nofun nofun (K.along_onSegment _ h)
  · exact K.congr (K.along_onSegment _ h).1 (kernel_queuePace _).symm

theorem waitAt (K : KeptByChanges P) (w : WaitPoint) {s : State} (h : Along P s) : P (waitAt w s) :=
  K.along_enterState nofun nofun (K.along_onSegment _ h)

theorem releaseEnd (K : KeptByChanges P) {s : State} (h : Along P s) : P (releaseEnd s) := by
  have untargeted : Along P { s with
      blend := { s.blend with weightTarget := 0 },
      live := { s.live with remainder :=
        if s.control.run.any (fun r => r.authority == .follow) then 0 else s.live.remainder } } :=
    ⟨K.congr (K.untarget s h.1) rfl, h.2⟩
  exact K.along_enterState nofun nofun (K.along_freezePath untargeted)

theorem stepEnd (K : KeptByChanges P) (m : Mark) {s : State} (h : Along P s) : P (stepEnd m s) := by
  unfold Machine.stepEnd
  split
  · exact (K.along_freezePath h).1
  · split
    · exact K.waitAt _ h
    · split
      · exact K.releaseEnd h
      · exact K.enterLiveAt _ h.2 h.1

theorem stepNext (K : KeptByChanges P) (m : Mark) {s : State} (h : Along P s) : P (stepNext m s) := by
  unfold Machine.stepNext
  split
  · exact K.beginSegment _ h
  · exact K.stepEnd m h

theorem stepLoop (K : KeptByChanges P) (n : MarkNo) (m : Mark) {s : State} (h : Along P s) :
    P (stepLoop n m s) := by
  unfold Machine.stepLoop
  split
  · rename_i r _ hr
    dsimp only
    split
    · exact K.beginSegment _ (K.along_rerun _ hr rfl rfl h)
    · exact K.stepNext m (K.along_rerun _ hr rfl rfl h)
  · exact K.stepNext m h

theorem stepStop (K : KeptByChanges P) (n : MarkNo) (m : Mark) {s : State} (h : Along P s) :
    P (stepStop n m s) := by
  unfold Machine.stepStop
  split
  · exact K.waitAt _ h
  · exact K.stepLoop n m h

theorem stepDwell (K : KeptByChanges P) (n : MarkNo) (m : Mark) (served : Bool) {s : State} (h : Along P s) :
    P (stepDwell n m served s) := by
  unfold Machine.stepDwell
  split
  · exact K.stepStop n m h
  · dsimp only
    split
    · exact K.beginSegment _ (K.along_onSegment _ h)
    · exact K.stepStop n m (K.along_onSegment _ h)

theorem handBack (K : KeptByChanges P) {s : State} (h : Along P s) : P (handBack s) := by
  unfold Machine.handBack
  split
  · exact h.1
  · rename_i r hr
    split
    · exact h.1
    · rename_i g _
      dsimp only
      have kept : Along P (queuePace { s with control :=
          { s.control with run := some { r with segment := g, heldAside := none } } }) :=
        ⟨K.congr (K.along_rerun { r with segment := g, heldAside := none } hr rfl rfl h).1
          (kernel_queuePace _).symm, by simpa using h.2⟩
      split
      · exact kept.1
      · split
        · exact kept.1
        · split
          · exact K.stepLoop _ _ (K.along_onSegment _ kept)
          · exact K.waitAt _ kept
        · exact K.stepEnd _ kept

theorem takeArrival (K : KeptByChanges P) {s : State} (h : Along P s) : P (takeArrival s) := by
  unfold Machine.takeArrival
  split
  · exact h.1
  · dsimp only
    split
    · exact K.handBack h
    · exact K.stepDwell _ _ _ h

theorem continueRun (K : KeptByChanges P) {s : State} (h : Along P s) : P (continueRun s) := by
  unfold Machine.continueRun
  split
  · exact h.1
  · exact K.stepLoop _ _ (K.along_onSegment _
      ⟨K.edit { s.control with cueResult := .noResult } s (noNewRecords_of_eq rfl rfl rfl rfl) h.1, h.2⟩)

theorem pathStage (K : KeptByChanges P) (c : Configuration) {s : State} (h : P s) : P (pathStage c s).1 := by
  have advanced (r : RunContext) (hr : s.control.run = some r) (hn : s.control.axisState ≠ .setup) :
      P (advancePath c r s).1 := by
    have moved (g : Segment) (k : Nat) : Along P
        { s with control := { s.control with run := some { r with segment := g, remainder := k } } } :=
      K.along_rerun _ hr rfl rfl ⟨h, hn⟩
    unfold advancePath
    dsimp only
    split
    · exact K.takeArrival (moved _ _)
    · exact (moved _ _).1
  unfold Machine.pathStage
  split
  · exact h
  · rename_i r hr
    split
    · rename_i hs; exact advanced r hr (by rw [hs]; nofun)
    · rename_i hs; exact advanced r hr (by rw [hs]; nofun)
    · exact h
    · rename_i hs
      split
      · exact h
      · exact advanced r hr (by rw [hs]; nofun)
    · exact h

theorem takeReports (K : KeptByChanges P) (m : MixResult) {s : State} (h : P s) : P (takeReports m s) := by
  unfold Machine.takeReports
  split
  · rename_i hs
    split
    · exact K.enterLiveAt _ (by rw [hs]; nofun) h
    · exact h
  · rename_i hs
    split
    · exact K.enterState nofun nofun (by rw [hs]; nofun) h
    · exact h
  · exact h

/-! ### Grabs, losses, halts and the cues -/

theorem takeGrab (K : KeptByChanges P) {s : State} (h : P s) : P (takeGrab s) := by
  have cleared : P { s with
      control := { s.control with stack := [] }, blend := { s.blend with weightTarget := 0 } } :=
    K.untarget _ (K.edit { s.control with stack := [] } s
      ⟨rfl, fun r h => ⟨r, h, rfl, rfl⟩, fun a h => ⟨a, h, rfl, rfl⟩, fun _ h => absurd h List.not_mem_nil⟩ h)
  have released (hn : s.control.axisState ≠ .setup) : P (Machine.enterState .releasing { s with
      control := { s.control with stack := [] }, blend := { s.blend with weightTarget := 0 },
      live := { s.live with remainder := 0 } }) :=
    K.enterState nofun nofun hn (K.congr cleared rfl)
  unfold Machine.takeGrab
  split
  · rename_i hs; exact released (by rw [hs]; nofun)
  · rename_i hs; exact released (by rw [hs]; nofun)
  · exact h

theorem grabExpiry (K : KeptByChanges P) {s : State} (h : P s) : P (grabExpiry s) := by
  unfold Machine.grabExpiry
  split
  · exact K.takeGrab (K.congr h rfl)
  · exact h

/-- HOLDING is entered with its cause (R47, R52). -/
theorem enterHolding (K : KeptByChanges P) (cause : HoldCause) {s : State} (hn : s.control.axisState ≠ .setup)
    (h : P s) : P (Machine.enterState .holding { s with control := { s.control with holdCause := some cause } }) :=
  K.enterState nofun nofun hn (K.edit { s.control with holdCause := some cause } s
    (noNewRecords_of_eq rfl rfl rfl rfl) h)

theorem takeCountedLoss (K : KeptByChanges P) {s : State} (h : P s) : P (takeCountedLoss s) := by
  unfold Machine.takeCountedLoss
  split
  · rename_i hs; exact K.enterHolding _ (by rw [hs]; nofun) h
  · exact h

theorem losePeer (K : KeptByChanges P) (a : Addr) {s : State} (h : P s) : P (losePeer a s) := by
  unfold Machine.losePeer
  split
  · dsimp only
    split
    · exact K.takeCountedLoss (K.congr h rfl)
    · exact K.congr h rfl
  · exact h

theorem takeHalt (K : KeptByChanges P) (code : Byte) {s : State} (h : P s) : P (takeHalt code s) := by
  unfold Machine.takeHalt
  split
  · rename_i hw
    exact K.haltNode _ (by intro hs; rw [hs] at hw; exact absurd hw nofun) h
  · exact h

theorem cueAnswer (K : KeptByChanges P) (r : CueResult) {s : State} (h : P s) : P (cueAnswer r s) :=
  K.edit { s.control with cueResult := r } s (noNewRecords_of_eq rfl rfl rfl rfl) h

theorem takeHold (K : KeptByChanges P) (cue : CueNo) {s : State} (h : P s) : P (takeHold cue s) := by
  unfold Machine.takeHold
  split
  iterate 3 exact h
  iterate 4 exact K.cueAnswer _ h
  iterate 3 exact h
  rename_i hs
  split
  · exact K.enterHolding _ (by rw [hs]; nofun) h
  · exact h

theorem takeResume (K : KeptByChanges P) (cue : CueNo) {s : State} (h : P s) : P (takeResume cue s) := by
  unfold Machine.takeResume
  split
  · rename_i hs
    split
    · exact K.enterState nofun nofun (by rw [hs]; nofun) h
    · exact h
  · exact h

theorem takeAbort (K : KeptByChanges P) (cue : CueNo) {s : State} (h : P s) : P (takeAbort cue s) := by
  have dropped : P { s with control := { s.control with arm := none } } :=
    K.edit { s.control with arm := none } s ⟨rfl, fun r h => ⟨r, h, rfl, rfl⟩, nofun, fun _ h => h⟩ h
  have maybe (b : Bool) : P (if b then { s with control := { s.control with arm := none } } else s) := by
    split
    · exact dropped
    · exact h
  have run (hn : s.control.axisState ≠ .setup) : P (if cueMatches cue (s.control.run.map (·.cue))
      then Machine.haltNode .abort s
      else if cueMatches cue (s.control.arm.map (·.cue)) then { s with control := { s.control with arm := none } }
      else s) := by
    split
    · exact K.haltNode _ hn h
    · exact maybe _
  unfold Machine.takeAbort
  dsimp only
  split
  iterate 4 (rename_i hs; exact run (by rw [hs]; nofun))
  · rename_i hs
    split
    · exact K.enterState nofun nofun (by rw [hs]; nofun) dropped
    · exact h
  · exact maybe _
  · exact h

/-! ### Parking, waking and CLEAR -/

theorem takePark (K : KeptByChanges P) {s : State} (hn : s.control.axisState ≠ .setup) (h : P s) :
    P (takePark s).state := by
  unfold Machine.takePark parkNode
  split
  · exact K.enterState nofun nofun hn (K.congr h rfl)
  · exact h

theorem takeClear (K : KeptByChanges P) {s : State} (hn : s.control.axisState ≠ .setup) (h : P s) :
    P (takeClear s).state := by
  unfold Machine.takeClear
  split
  · split
    · exact K.clearFault _ hn h
    · exact h
  · exact h

end KeptByChanges

end Sys2Proof.Machine
end

section
/-! ## Laws of every step -/

namespace Sys2Proof.Machine

/-- An ARM's check that accepts a chain finds its first mark's record, and takes authority and share from it (R6,
R39). -/
theorem checkChain_accepted {table : Vector MarkSlot 64} {first : MarkNo} {set : List MarkNo} {authority : Authority}
    {share : Nat} (h : checkChain table first = .accepted set authority share) :
    ∃ m, table[first].record = some m ∧ set = reachable table first ∧ authority = m.authority ∧
      share = m.share := by
  unfold checkChain at h
  split at h
  · cases h
  · rename_i m hm
    dsimp only at h
    split at h
    · cases h
    · injection h with h1 h2 h3
      exact ⟨m, hm, h1.symm, h2.symm, h3.symm⟩

theorem working_iff {st : AxisState} : working st = true ↔ st = .live ∨ st = .armed ∨ st = .running ∨
    st = .holding ∨ st = .waiting ∨ st = .releasing := by
  cases st <;> simp [working]

theorem not_working_iff {st : AxisState} : working st = false ↔ st = .setup ∨ st = .waking ∨ st = .parked ∨
    st = .halted ∨ st = .fault := by
  cases st <;> simp [working]

/-- The node with a new arm record (R39). -/
def withArm (a : ArmRecord) (s : State) : State :=
  cueAnswer .armed { s with control := { s.control with arm := some a } }

/-- An ARM with number 0, or in a state that takes no cue, does nothing (R38). -/
theorem takeArm_unheard {cue : CueNo} {s : State} (first : MarkNo) (h : cue = 0 ∨ s.control.axisState = .setup ∨
    s.control.axisState = .waking ∨ s.control.axisState = .parked) : takeArm cue first s = s := by
  rcases h with h | h | h | h <;> simp [takeArm, h]

/-- An ARM of a stopped node (R40). -/
theorem takeArm_stopped {cue : CueNo} {s : State} (first : MarkNo) (hc : cue ≠ 0)
    (h : s.control.axisState = .halted ∨ s.control.axisState = .fault) :
    takeArm cue first s = cueAnswer .badState s := by
  rw [takeArm, if_neg hc]
  rcases h with h | h <;> simp [h]

/-- An ARM in a state that takes it: what the check of its chain says (R6, R39, R40). -/
theorem takeArm_checked {cue : CueNo} {s : State} (first : MarkNo) (hc : cue ≠ 0)
    (hw : working s.control.axisState = true) :
    takeArm cue first s = match checkChain s.marks.table first with
      | .noMark => cueAnswer .noMark s
      | .brokenChain => cueAnswer .brokenChain s
      | .accepted set authority share =>
        let armed := withArm { cue, first, chainSet := set, authority, share, age := 0 } s
        if s.control.axisState = .live ∨ s.control.axisState = .armed then
          readStop s.control.axisState (queuePace (changeState .armed armed)) else armed := by
  rw [takeArm, if_neg hc]
  rcases working_iff.mp hw with hs | hs | hs | hs | hs | hs <;> cases checkChain s.marks.table first <;>
    simp [withArm, hs]

/-- A predicate that the changes of axis state keep, and with them every other operation of the node. -/
structure KeptBySteps (P : State → Prop) : Prop extends KeptByChanges P where
  reset : ∀ s, P s → P (resetNode s)
  release : ∀ address strap s, P s → P (releaseReset address strap s)
  loading : ∀ n m s, s.startup.phase = .loading n → P s → P { s with startup.phase := .loading m }
  loaded : ∀ s, P s → P (loadingEnd s)
  aged : ∀ s, s.startup.phase = .running → P s → P (ageAll s)
  pace : ∀ c s, P s → P (paceWork c s)
  live : ∀ c s, s.startup.config = some c → P s → P (liveStage c s).1
  mix : ∀ c path clamped s, P s → P (mixStage c path clamped s).state
  newArm : ∀ a s, s.startup.phase = .running → s.control.axisState ≠ .setup →
    (∃ m, s.marks.table[a.first].record = some m ∧ a.share = m.share) → P s →
    P { s with control := { s.control with arm := some a } }
  armed : ∀ s, s.control.axisState = .live ∨ s.control.axisState = .armed → P s → P (changeState .armed s)
  started : ∀ a stack s, s.control.axisState ≠ .setup → s.control.arm = some a →
    (∀ r ∈ stack, ∃ q, (s.control.run = some q ∨ q ∈ s.control.stack) ∧ r.share = q.share) →
    P s → P (startRun a stack s)
  popped : ∀ duration top rest s, s.control.axisState ≠ .setup → s.control.stack = top :: rest →
    P s → P (popRun duration top rest s)
  lease : ∀ s, P s → P (leaseEnd s)
  slotWrite : ∀ s, P s → P (slotWriteEnd s)
  configWrite : ∀ s, s.startup.phase = .running → P s → P (configWriteEnd s)
  owned : ∀ k act, Owner k act → k = .edit ∨ k = .config → ∀ s, gate k s.control.axisState = none →
    P s → P (act s).state

namespace KeptBySteps

variable {P : State → Prop}

theorem update (K : KeptBySteps P) {s : State} (h : P s) : P (update s) := by
  unfold Machine.update
  split
  · rename_i c _ hc _
    have path : P (pathStage c (paceWork c { s with blend.timer := some 0 })).1 :=
      K.pathStage c (K.pace c _ (K.congr h rfl))
    have same : standing (paceCheck (pathStage c (paceWork c { s with blend.timer := some 0 })).1) =
        standing s := by
      simp only [standing_paceCheck, standing_pathStage, standing_paceWork]; rfl
    have config := (congrArg (·.startup.config) same).trans hc
    exact K.takeReports _ (K.exchangeStage c _ (K.mix c _ _ _
      (K.live c _ config (K.congr path (kernel_paceCheck _).symm))))
  · exact h

theorem event (K : KeptBySteps P) {f : State → State} (e : Event f) {s : State}
    (running : s.startup.phase = .running) (h : P s) : P (f s) := by
  cases e with
  | update => exact K.update h
  | paceInterval => exact K.congr h (kernel_paceInterval s).symm
  | driveLost => exact K.reportDrive _ (K.congr h rfl)
  | following => exact K.reportDrive _ (K.congr h rfl)
  | feedback r => exact K.takeFeedback r h
  | stopChange active => exact K.stopChange active h
  | settle => exact K.settleExpiry h
  | armExpiry => exact K.armExpiry h
  | staleDemand => exact K.congr h (kernel_staleDemand s).symm
  | staleDial => exact K.congr h rfl
  | releaseChannel ch => exact K.congr h (kernel_releaseChannel ch s).symm
  | grab => exact K.grabExpiry h
  | losePeer a => exact K.losePeer a h
  | lease => exact K.lease s h
  | slotWrite => exact K.slotWrite s h
  | configWrite => exact K.configWrite s running h
  | stateInterval => exact K.congr h (kernel_stateInterval s).symm
  | sendStart => exact K.congr h (kernel_startFrame s).symm
  | lostContention => exact K.congr h (kernel_loseContention s).symm
  | echoError => exact K.takeEchoError h
  | drop => exact K.dropEvent h
  | sentIntact => exact K.congr h (kernel_frameSent s).symm
  | clash => exact K.reportClash h

theorem takeArm (K : KeptBySteps P) (cue : CueNo) (first : MarkNo) {s : State}
    (running : s.startup.phase = .running) (h : P s) : P (takeArm cue first s) := by
  by_cases hc : cue = 0
  · rwa [takeArm_unheard first (.inl hc)]
  by_cases hw : working s.control.axisState = true
  · have hn : s.control.axisState ≠ .setup := by intro hs; rw [hs] at hw; exact absurd hw nofun
    rw [takeArm_checked first hc hw]
    split
    · exact K.cueAnswer _ h
    · exact K.cueAnswer _ h
    · rename_i set authority share hk
      obtain ⟨m, hm, -, -, hs⟩ := checkChain_accepted hk
      have recorded : P (withArm { cue, first, chainSet := set, authority, share, age := 0 } s) :=
        K.cueAnswer _ (K.newArm _ s running hn ⟨m, hm, hs⟩ h)
      dsimp only
      split
      · rename_i hl
        exact K.readStop _ (by simp) (K.congr (K.armed (withArm _ s) hl recorded) (kernel_queuePace _).symm)
      · exact recorded
  · rcases not_working_iff.mp (Bool.not_eq_true _ ▸ hw) with hs | hs | hs | hs | hs
    · rwa [takeArm_unheard first (.inr (.inl hs))]
    · rwa [takeArm_unheard first (.inr (.inr (.inl hs)))]
    · rwa [takeArm_unheard first (.inr (.inr (.inr hs)))]
    · rw [takeArm_stopped first hc (.inl hs)]; exact K.cueAnswer _ h
    · rw [takeArm_stopped first hc (.inr hs)]; exact K.cueAnswer _ h

theorem goRun (K : KeptBySteps P) {stack : List RunContext} {s : State} (hn : s.control.axisState ≠ .setup)
    (old : ∀ r ∈ stack, ∃ q, (s.control.run = some q ∨ q ∈ s.control.stack) ∧ r.share = q.share)
    (h : P s) : P (goRun stack s) := by
  unfold Machine.goRun
  split
  · exact K.started _ stack s hn ‹_› old h
  · exact h

theorem pushedRun_share (r : RunContext) : (pushedRun r).share = r.share := by
  unfold pushedRun; split <;> rfl

theorem goPending (K : KeptBySteps P) (nest : Bool) {s : State} (hn : s.control.axisState ≠ .setup) (h : P s) :
    P (goPending nest s) := by
  have kept (r : RunContext) (hr : r ∈ s.control.stack) :
      ∃ q, (s.control.run = some q ∨ q ∈ s.control.stack) ∧ r.share = q.share := ⟨r, .inr hr, rfl⟩
  unfold Machine.goPending
  split
  · split
    · exact K.cueAnswer _ h
    · refine K.goRun hn (fun r hr => ?_) h
      rcases List.mem_append.mp hr with pushed | stacked
      · obtain ⟨q, hq, rfl⟩ := Option.map_eq_some_iff.mp (Option.mem_toList.mp pushed)
        exact ⟨q, .inl hq, pushedRun_share q⟩
      · exact kept r stacked
  · exact K.goRun hn kept h

theorem takeGo (K : KeptBySteps P) (cue : CueNo) (nest : Bool) {s : State} (h : P s) : P (takeGo cue nest s) := by
  have fresh (hn : s.control.axisState ≠ .setup) : P (Machine.goRun [] s) :=
    K.goRun hn (fun _ hr => absurd hr List.not_mem_nil) h
  have answered (hn : s.control.axisState ≠ .setup) :
      P (if armedFor cue s.control then Machine.goRun [] s else Machine.cueAnswer .missed s) := by
    split
    · exact fresh hn
    · exact K.cueAnswer _ h
  have pending (hn : s.control.axisState ≠ .setup) : P (if armedFor cue s.control then Machine.goPending nest s
      else if waitsForGo cue s.control then Machine.continueRun s else Machine.cueAnswer .missed s) := by
    split
    · exact K.goPending nest hn h
    · split
      · exact K.continueRun ⟨h, hn⟩
      · exact K.cueAnswer _ h
  unfold Machine.takeGo
  split
  · exact h
  · split
    iterate 3 exact h
    iterate 2 exact K.cueAnswer _ h
    · rename_i hs; exact answered (by rw [hs]; nofun)
    · rename_i hs
      have hn : s.control.axisState ≠ .setup := by rw [hs]; nofun
      split
      · exact fresh hn
      · exact K.enterState nofun nofun hn
          (K.edit { s.control with arm := none, cueResult := .missed } s
            ⟨rfl, fun r h => ⟨r, h, rfl, rfl⟩, nofun, fun _ h => h⟩ h)
    · rename_i hs; exact answered (by rw [hs]; nofun)
    all_goals rename_i hs; exact pending (by rw [hs]; nofun)

theorem takeReturn (K : KeptBySteps P) (cue : CueNo) (duration : Nat) {s : State} (h : P s) :
    P (takeReturn cue duration s) := by
  have back (hn : s.control.axisState ≠ .setup) : P (if cueMatches cue (ownCue s.control) then
      match s.control.stack with
      | [] => Machine.cueAnswer .noReturn s
      | top :: rest => popRun duration top rest s
    else s) := by
    split
    · split
      · exact K.cueAnswer _ h
      · exact K.popped _ _ _ s hn ‹_› h
    · exact h
  unfold Machine.takeReturn
  split
  iterate 3 exact h
  iterate 4 exact K.cueAnswer _ h
  · split
    · exact K.cueAnswer _ h
    · exact h
  all_goals rename_i hs; exact back (by rw [hs]; nofun)

theorem handled (K : KeptBySteps P) {f : State → State} (e : Handling f) {s : State}
    (running : s.startup.phase = .running) (h : P s) : P (f s) := by
  cases e with
  | recordOnly => exact h
  | halt code => exact K.takeHalt code h
  | arm cue first => exact K.takeArm cue first running h
  | go cue nest => exact K.takeGo cue nest h
  | hold cue => exact K.takeHold cue h
  | resume cue => exact K.takeResume cue h
  | abort cue => exact K.takeAbort cue h
  | returnCue cue d => exact K.takeReturn cue d h
  | demand a p => exact K.congr h (kernel_takeDemandFrame a p s).symm
  | pace a p => exact K.congr h (kernel_leaveCounted a p s).symm
  | poll target => exact K.congr h (kernel_takePoll target s).symm

theorem answered (K : KeptBySteps P) {k : CommandClass} {act : State → Answer} (o : Owner k act) {s : State}
    (taken : gate k s.control.axisState = none) (h : P s) : P (act s).state := by
  have setup_refuses (hk : k = .park ∨ k = .wake ∨ k = .clear) : s.control.axisState ≠ .setup := by
    intro hs
    rw [hs] at taken
    rcases hk with rfl | rfl | rfl <;> exact absurd taken nofun
  cases o with
  | markOpen head args => exact K.owned _ _ (.markOpen head args) (.inl rfl) s taken h
  | markSet head args => exact K.owned _ _ (.markSet head args) (.inl rfl) s taken h
  | markClose head args => exact K.owned _ _ (.markClose head args) (.inl rfl) s taken h
  | markErase args => exact K.owned _ _ (.markErase args) (.inl rfl) s taken h
  | markRead args => rw [takeMarkRead_state]; exact h
  | save => exact K.owned _ _ .save (.inl rfl) s taken h
  | park => exact K.takePark (setup_refuses (.inl rfl)) h
  | wake => exact K.enterWaking (setup_refuses (.inr (.inl rfl))) h
  | clear => exact K.takeClear (setup_refuses (.inr (.inr rfl))) h
  | peerRead args => rw [takePeerRead_state]; exact h
  | configSet args => exact K.owned _ _ (.configSet args) (.inr rfl) s taken h
  | configDone => exact K.owned _ _ .configDone (.inr rfl) s taken h
  | unknown => exact h

/-- What the node's operations keep, its steps keep. -/
theorem keptByNode (K : KeptBySteps P) : KeptByNode P where
  queue _ _ h := K.congr h rfl
  reset := K.reset
  release := K.release
  loading := K.loading
  loaded := K.loaded
  pin _ _ _ h := K.congr h rfl
  aged := K.aged
  event _ e _ running h := K.event e running h
  heard a record s _ _ h := K.congr h (kernel_hear a record s).symm
  handled _ e _ running h := K.handled e running h
  refused head r s _ h := K.congr h (kernel_sendReply head r [] s).symm
  answered _ _ o _ _ _ taken _ h := K.congr (K.answered o taken h) (kernel_sendReply _ _ _ _).symm

end KeptBySteps

end Sys2Proof.Machine
end

section
/-! ## Pace and blend -/

namespace Sys2Proof.Machine

/-! ### Slots -/

@[simp] theorem mapSlots_get {α β : Type} (f : α → β) (v : Vector α 64) (n : MarkNo) :
    (mapSlots f v)[n] = f v[n] := by
  simp [mapSlots, Vector.getElem_mk]

/-- A clamp of a slot moves its position alone (R2). -/
theorem clampSlot_record (c : Configuration) (slot : MarkSlot) : (clampSlot c slot).record =
    slot.record.map fun m => { m with position := clampInt c.limitLow c.limitHigh m.position } := by
  unfold clampSlot
  split
  · rename_i m hm
    dsimp only
    split
    · rename_i same
      simp [hm, same]
    · simp [hm]
  · rename_i hm; simp [hm]

theorem clampInt_natAbs_le (bound : Nat) (x : Int) : (clampAbs bound x).natAbs ≤ bound := by
  unfold clampAbs clampInt; omega

/-- The anti-windup only shrinks the trim (R120). -/
theorem unwindTrim_natAbs_le (excess : Nat) (trim : Int) : (unwindTrim excess trim).natAbs ≤ trim.natAbs := by
  unfold unwindTrim withSign
  rw [Int.natAbs_mul, Int.natAbs_natCast]
  rcases eq_or_ne trim 0 with rfl | h
  · simp
  · rw [Int.natAbs_sign_of_ne_zero h]; omega

/-- The pace goes no further than full pace (R85). -/
theorem slewPace_le (t a target : Nat) : slewPace t a target ≤ fullPace := Nat.min_le_left _ _

theorem slewPace_zero (t : Nat) : slewPace t 0 0 = 0 := by simp [slewPace]

theorem paceTargetOf_no_run {st : AxisState} (h : hasRun st = false) (need dial : Nat) (fresh : List (Addr × Nat)) :
    paceTargetOf st need dial fresh = 0 := by
  revert h; cases st <;> simp [hasRun, paceTargetOf]

/-- The weight passes neither its target nor where it was (R115). -/
theorem stepWeight_le {bound step weight target : Nat} (hw : weight ≤ bound) (ht : target ≤ bound) :
    stepWeight step weight target ≤ bound := by
  unfold stepWeight; split <;> omega

/-! ### The mix stage -/

/-- What the mix stage does: it mixes in a state that steers the axis and has its setpoints, brakes in HALTED and FAULT,
and else leaves everything but the limited flag and, in WAKING, the history (R113, R127, R129). -/
theorem mixStage_cases {Q : MixResult → Prop} {c : Configuration} {path : Option Int} {clamped : Bool} {s : State}
    (mixed : ∀ h, working s.control.axisState = true → s.blend.history = some h →
      Q (mixedUpdate c path h { s with blend := { s.blend with limited := clamped } }))
    (stopped : s.control.axisState = .halted ∨ s.control.axisState = .fault →
      Q (stoppedUpdate c { s with blend := { s.blend with limited := false } }))
    (kept : s.control.axisState ≠ .halted → ∀ limited history pair, Q
      { state := { s with blend := { s.blend with limited := limited, history := history } }, pair := pair,
        atRest := false, weightAtZero := false }) :
    Q (mixStage c path clamped s) := by
  have steering (hw : working s.control.axisState = true) : Q (match s.blend.history with
      | some h => mixedUpdate c path h { s with blend := { s.blend with limited := clamped } }
      | none => { state := { s with blend := { s.blend with limited := clamped } }, pair := none,
                  atRest := false, weightAtZero := false }) := by
    split
    · exact mixed _ hw ‹_›
    · exact kept (by intro hs; rw [hs] at hw; exact absurd hw nofun) clamped s.blend.history none
  unfold mixStage
  split
  iterate 6 (rename_i hs; exact steering (by rw [hs]; rfl))
  · exact stopped (.inl ‹_›)
  · exact stopped (.inr ‹_›)
  · rename_i hs
    have hn : s.control.axisState ≠ .halted := by rw [hs]; nofun
    dsimp only
    split
    · exact kept hn _ _ _
    · exact kept hn false s.blend.history none
  · rename_i hs; exact kept (by rw [hs]; nofun) false s.blend.history none
  · rename_i hs; exact kept (by rw [hs]; nofun) false s.blend.history none

theorem mixedUpdate_state (c : Configuration) (path : Option Int) (h : History) (s : State) :
    (mixedUpdate c path h s).state = { s with blend := (mixedUpdate c path h s).state.blend } := by
  unfold mixedUpdate takeSetpoint; dsimp only; split <;> rfl

theorem stoppedUpdate_state (c : Configuration) (s : State) :
    (stoppedUpdate c s).state = { s with blend := (stoppedUpdate c s).state.blend } := by
  unfold stoppedUpdate takeSetpoint; split <;> rfl

/-- The mix stage changes the blend engine alone (R112). -/
theorem mixStage_state (c : Configuration) (path : Option Int) (clamped : Bool) (s : State) :
    (mixStage c path clamped s).state = { s with blend := (mixStage c path clamped s).state.blend } :=
  mixStage_cases (Q := fun m => m.state = { s with blend := m.state.blend })
    (fun h _ _ => mixedUpdate_state c path h _) (fun _ => stoppedUpdate_state c _) (fun _ _ _ _ => rfl)

theorem mixedUpdate_weight (c : Configuration) (path : Option Int) (h : History) (s : State) :
    (mixedUpdate c path h s).state.blend.weight = if hasRun s.control.axisState
      then stepWeight s.blend.weightStep s.blend.weight s.blend.weightTarget else 0 := by
  unfold mixedUpdate takeSetpoint; dsimp only; split <;> rfl

theorem mixedUpdate_weightTarget (c : Configuration) (path : Option Int) (h : History) (s : State) :
    (mixedUpdate c path h s).state.blend.weightTarget = s.blend.weightTarget := by
  unfold mixedUpdate takeSetpoint; dsimp only; split <;> rfl

theorem mixedUpdate_trim_le (c : Configuration) (path : Option Int) (h : History) (s : State) :
    (mixedUpdate c path h s).state.blend.trim.natAbs ≤ s.blend.trim.natAbs := by
  have kept (x : Int) (excess : Nat) : (if s.control.axisState = .releasing then s.blend.trim
      else unwindTrim excess s.blend.trim).natAbs ≤ s.blend.trim.natAbs := by
    split
    · exact le_rfl
    · exact unwindTrim_natAbs_le _ _
  unfold mixedUpdate takeSetpoint limitChain
  dsimp only
  split <;> exact kept 0 _

theorem stoppedUpdate_mix (c : Configuration) (s : State) :
    (stoppedUpdate c s).state.blend.weight = s.blend.weight ∧
      (stoppedUpdate c s).state.blend.weightTarget = s.blend.weightTarget ∧
      (stoppedUpdate c s).state.blend.trim = s.blend.trim := by
  unfold stoppedUpdate takeSetpoint
  split <;> exact ⟨rfl, rfl, rfl⟩

/-- The mix stage steps the weight in a state with a run, and makes it 0 or leaves it in any other (R115). -/
theorem mixStage_weight (c : Configuration) (path : Option Int) (clamped : Bool) (s : State) :
    (mixStage c path clamped s).state.blend.weight = s.blend.weight ∨
      (mixStage c path clamped s).state.blend.weight = if hasRun s.control.axisState
        then stepWeight s.blend.weightStep s.blend.weight s.blend.weightTarget else 0 :=
  mixStage_cases (Q := fun m => m.state.blend.weight = s.blend.weight ∨ m.state.blend.weight =
      if hasRun s.control.axisState then stepWeight s.blend.weightStep s.blend.weight s.blend.weightTarget else 0)
    (fun h _ _ => .inr (mixedUpdate_weight c path h _)) (fun _ => .inl (stoppedUpdate_mix c _).1)
    (fun _ _ _ _ => .inl rfl)

theorem mixStage_weightTarget (c : Configuration) (path : Option Int) (clamped : Bool) (s : State) :
    (mixStage c path clamped s).state.blend.weightTarget = s.blend.weightTarget :=
  mixStage_cases (Q := fun m => m.state.blend.weightTarget = s.blend.weightTarget)
    (fun h _ _ => mixedUpdate_weightTarget c path h _) (fun _ => (stoppedUpdate_mix c _).2.1) (fun _ _ _ _ => rfl)

theorem mixStage_trim_le (c : Configuration) (path : Option Int) (clamped : Bool) (s : State) :
    (mixStage c path clamped s).state.blend.trim.natAbs ≤ s.blend.trim.natAbs :=
  mixStage_cases (Q := fun m => m.state.blend.trim.natAbs ≤ s.blend.trim.natAbs)
    (fun h _ _ => mixedUpdate_trim_le c path h _) (fun _ => (congrArg Int.natAbs (stoppedUpdate_mix c _).2.2).le)
    (fun _ _ _ _ => le_rfl)

/-! ### The live stage -/

/-- What the live stage does to the trim: it adds to it, clamped to TRIM_MAX, in a FOLLOW run, and else leaves it
(R105, R117). -/
theorem liveStage_trim (c : Configuration) (s : State) : (liveStage c s).1.blend.trim = s.blend.trim ∨
    (hasRun s.control.axisState = true ∧ (liveStage c s).1.blend.trim.natAbs ≤ c.trimMax) := by
  have run (h : incrementTo s.control = .trim) : hasRun s.control.axisState = true := by
    unfold incrementTo at h
    split at h
    iterate 3 cases h
    iterate 3 (rename_i hs; rw [hs]; rfl)
    cases h
  unfold liveStage
  dsimp only
  split
  · exact .inl rfl
  · exact .inr ⟨run ‹_›, clampInt_natAbs_le _ _⟩
  · split <;> exact .inl rfl

/-- The live stage touches nothing but the live-rate remainder, the trim and the live position (R105). -/
theorem liveStage_frame (c : Configuration) (s : State) : ∃ remainder trim live, (liveStage c s).1 =
    { s with live := { s.live with remainder := remainder },
             blend := { s.blend with trim := trim, live := live } } := by
  unfold liveStage
  dsimp only
  split
  · exact ⟨_, _, _, rfl⟩
  · exact ⟨_, _, _, rfl⟩
  · split <;> exact ⟨_, _, _, rfl⟩

/-! ### The bounds of pace and blend -/

/-- The two laws on the applied pace and on a node without a run (R74, R85, R115, R117). -/
def PaceAndBlend (s : State) : Prop := PaceBounded s ∧ BlendAtRest s

/-- The two laws speak of six fields. -/
theorem PaceAndBlend.of_fields {s t : State} (h : PaceAndBlend s) (state : t.control.axisState = s.control.axisState)
    (applied : t.pace.applied = s.pace.applied) (weight : t.blend.weight = s.blend.weight)
    (target : t.blend.weightTarget = s.blend.weightTarget) (trim : t.blend.trim = s.blend.trim)
    (config : t.startup.config = s.startup.config) : PaceAndBlend t := by
  obtain ⟨⟨full, idle⟩, noWeight, noTarget, noTrim, bounded⟩ := h
  rw [← applied] at full
  rw [← state, ← applied] at idle
  rw [← state, ← weight] at noWeight
  rw [← state, ← target] at noTarget
  rw [← state, ← trim] at noTrim
  rw [← config, ← trim] at bounded
  exact ⟨⟨full, idle⟩, noWeight, noTarget, noTrim, bounded⟩

theorem PaceAndBlend.congr {s t : State} (h : PaceAndBlend s) (same : kernel s = kernel t) : PaceAndBlend t :=
  h.of_fields (congrArg (·.control.axisState) same).symm (congrArg (·.applied) same).symm
    (congrArg (·.weight) same).symm (congrArg (·.weightTarget) same).symm (congrArg (·.trim) same).symm
    (congrArg (·.startup.config) same).symm

/-- With pace and mix at 0 both laws hold in every axis state. -/
theorem paceAndBlend_of_zero {s : State} (applied : s.pace.applied = 0) (weight : s.blend.weight = 0)
    (target : s.blend.weightTarget = 0) (trim : s.blend.trim = 0) : PaceAndBlend s :=
  ⟨⟨by simp [applied], fun _ => applied⟩, fun _ => weight, fun _ => target, fun _ => trim,
    fun _ _ => by simp [trim]⟩

theorem hasRun_of_sendsPace {st : AxisState} (h : sendsPace st = true) (ha : st ≠ .armed) : hasRun st = true := by
  revert h ha; cases st <;> simp [hasRun, sendsPace]

/-- A change of axis state drops what the new state does not hold, so that it needs little of the state before: the
bounds alone, and an applied pace of 0 on the way into ARMED. -/
theorem paceAndBlend_changeState {new : AxisState} {s : State} (applied : s.pace.applied ≤ fullPace)
    (armed : new = .armed → s.pace.applied = 0)
    (trim : hasRun new = true → ∀ c, s.startup.config = some c → s.blend.trim.natAbs ≤ c.trimMax) :
    PaceAndBlend (changeState new s) := by
  refine ⟨⟨?_, fun idle => ?_⟩, fun idle => ?_, fun idle => ?_, fun idle => ?_, fun c hc => ?_⟩
  · rw [changeState_applied]; split
    · exact applied
    · exact Nat.zero_le _
  · replace idle : hasRun new = false := by simpa using idle
    rw [changeState_applied]; split
    · rename_i sends
      refine armed (by_contra fun ha => ?_)
      rw [hasRun_of_sendsPace sends ha] at idle
      exact absurd idle nofun
    · rfl
  · simp_all
  · simp_all
  · simp_all
  · rw [changeState_trim]; split
    · exact trim ‹_› c (by simpa using hc)
    · simp

theorem paceAndBlend_liveStage {c : Configuration} {s : State} (hc : s.startup.config = some c)
    (h : PaceAndBlend s) : PaceAndBlend (liveStage c s).1 := by
  obtain ⟨⟨full, idle⟩, weight, target, trim, bounded⟩ := h
  have trims := liveStage_trim c s
  obtain ⟨rem, tr, lv, frame⟩ := liveStage_frame c s
  rw [frame] at trims ⊢
  refine ⟨⟨full, idle⟩, weight, target, fun no_run => ?_, fun d hd => ?_⟩
  · rcases trims with e | ⟨run, -⟩
    · exact e.trans (trim no_run)
    · exact absurd (run.symm.trans no_run) nofun
  · obtain rfl : c = d := Option.some.inj (hc.symm.trans hd)
    rcases trims with e | ⟨-, le⟩
    · exact (congrArg Int.natAbs e).trans_le (bounded c hc)
    · exact le

theorem paceAndBlend_mixStage (c : Configuration) (path : Option Int) (clamped : Bool) {s : State}
    (h : PaceAndBlend s) : PaceAndBlend (mixStage c path clamped s).state := by
  obtain ⟨⟨full, idle⟩, weight, target, trim, bounded⟩ := h
  have weights := mixStage_weight c path clamped s
  have targets := mixStage_weightTarget c path clamped s
  have trims := mixStage_trim_le c path clamped s
  rw [mixStage_state] at weights targets trims ⊢
  refine ⟨⟨full, idle⟩, fun no_run => ?_, fun no_run => targets.trans (target no_run), fun no_run => ?_,
    fun d hd => trims.trans (bounded d hd)⟩
  · rcases weights with e | e
    · exact e.trans (weight no_run)
    · rw [show hasRun s.control.axisState = false from no_run] at e
      exact e
  · rw [trim no_run] at trims
    exact Int.natAbs_eq_zero.mp (Nat.le_zero.mp trims)

theorem paceAndBlend_paceWork (c : Configuration) {s : State} (h : PaceAndBlend s) : PaceAndBlend (paceWork c s) := by
  obtain ⟨⟨-, idle⟩, atRest⟩ := h
  refine ⟨⟨slewPace_le _ _ _, fun no_run => ?_⟩, ⟨atRest.1, atRest.2, atRest.3, atRest.4⟩⟩
  have no_run : hasRun s.control.axisState = false := no_run
  change slewPace _ s.pace.applied (paceTargetOf s.control.axisState _ _ _) = 0
  rw [idle no_run, paceTargetOf_no_run no_run, slewPace_zero]

/-- Entering a state that does not steer the axis is the change of state (R139). -/
theorem enterState_not_working {new : AxisState} (h : working new = false) (s : State) :
    enterState new s = changeState new s := by
  rcases enterState_cases new s with e | ⟨-, hw, -⟩
  · exact e
  · exact absurd (h.symm.trans hw) nofun

/-- What the mark store's commands can do (R159 to R164). -/
inductive MarkWork (s : State) : State → Prop
  | nothing : MarkWork s s
  | staged (e : OpenEdit) (idle : s.marks.edit ≠ none ∨ s.marks.save = none)
      (source : s.marks.table[e.mark].record = some e.staged ∨ (∃ x, e.staged = startMark x) ∨
        ∃ old low high field v, s.marks.edit = some old ∧ setMarkField low high old.staged field v = some e.staged) :
      MarkWork s { s with marks := { s.marks with edit := some e } }
  | discarded : MarkWork s { s with marks := { s.marks with edit := none } }
  | slotted (n : MarkNo) (slot : MarkSlot) (edit : Option OpenEdit) (free : inChainSet s.control n ≠ true)
      (source : slot.record = none ∧ edit = s.marks.edit ∨
        ∃ e, s.marks.edit = some e ∧ slot.record = some e.staged ∧ edit = none) :
      MarkWork s { s with marks := { s.marks with table := s.marks.table.set n slot, edit := edit } }
  | saving (idle : s.marks.save = none ∧ s.marks.edit = none) : MarkWork s (beginSlotWrite 0 s)

/-- Each of the mark store's commands does one of these. -/
theorem Owner.markWork {act : State → Answer} (o : Owner .edit act) (s : State) : MarkWork s (act s).state := by
  cases o with
  | markOpen head args =>
    unfold takeMarkOpen
    split
    · exact .nothing
    · split
      · exact .nothing
      · split
        · exact .nothing
        · split
          · exact .nothing
          · rename_i saving
            have idle : s.marks.save = none := by simpa using saving
            split
            · exact .nothing
            · dsimp only
              split
              · rename_i hm; exact .staged _ (.inr idle) (.inl hm)
              · exact .staged _ (.inr idle) (.inr (.inl ⟨_, rfl⟩))
              · exact .nothing
  | markSet head args =>
    unfold takeMarkSet
    split
    · split
      · exact .nothing
      · rename_i e he
        split
        · exact .nothing
        · split
          · dsimp only
            split
            · rename_i hm
              exact .staged _ (.inl (by simp [he])) (.inr (.inr ⟨e, _, _, _, _, he, hm⟩))
            · exact .nothing
          · exact .nothing
    · exact .nothing
  | markClose head args =>
    unfold takeMarkClose
    split
    · exact .nothing
    · split
      · exact .nothing
      · rename_i e he
        split
        · exact .nothing
        · split
          · exact .discarded
          · split
            · split
              · exact .nothing
              · rename_i free
                exact .slotted _ _ none free (.inr ⟨e, he, rfl, rfl⟩)
            · exact .nothing
  | markErase args =>
    unfold takeMarkErase
    split
    · exact .nothing
    · split
      · exact .nothing
      · split
        · exact .nothing
        · split
          · exact .nothing
          · rename_i free
            split
            · exact .nothing
            · exact .slotted _ _ s.marks.edit free (.inl ⟨rfl, rfl⟩)
  | save =>
    unfold takeSave
    split
    · exact .nothing
    · rename_i idle
      exact .saving (by simpa using idle)

/-- The mark store's commands write the marks and their saved copies, and nothing else (R157 to R164). -/
theorem MarkWork.frame {s t : State} (w : MarkWork s t) : ∃ marks slots,
    t = { s with marks := marks, nonvolatile := { s.nonvolatile with slots := slots } } := by
  cases w <;> exact ⟨_, _, rfl⟩

/-- CONFIG_SET and CONFIG_DONE write the staged configuration and the configuration write, and nothing else (R179,
R180). -/
theorem Owner.config_frame {act : State → Answer} (o : Owner .config act) (s : State) : ∃ staged write,
    (act s).state = { s with startup := { s.startup with staged := staged, write := write } } := by
  have same : ∃ staged write, s = { s with startup := { s.startup with staged := staged, write := write } } :=
    ⟨_, _, rfl⟩
  cases o with
  | configSet args =>
    unfold takeConfigSet
    split
    · split
      · exact same
      · split
        · exact same
        · dsimp only
          split
          · exact same
          · exact ⟨_, _, rfl⟩
    · exact same
  | configDone =>
    unfold takeConfigDone
    split
    · exact same
    · split
      · exact same
      · exact same
      · exact ⟨_, _, rfl⟩

/-- The end of a slot's write writes the marks and the saved slots alone (R164). -/
theorem slotWriteEnd_frame (s : State) : ∃ marks slots, slotWriteEnd s =
    { s with marks := marks, nonvolatile := { s.nonvolatile with slots := slots } } := by
  unfold slotWriteEnd
  split
  · exact ⟨_, _, rfl⟩
  · dsimp only
    split <;> exact ⟨_, _, rfl⟩

theorem paceAndBlend_keptByChanges : KeptByChanges PaceAndBlend where
  congr := PaceAndBlend.congr
  edit _ _ same h := h.of_fields same.axisState rfl rfl rfl rfl rfl
  enter _ _ _ ha _ h := paceAndBlend_changeState h.1.1 (absurd · ha) fun _ => h.2.trim_bounded
  untarget _ h := ⟨h.1, h.2.weight_zero, fun _ => rfl, h.2.trim_zero, h.2.trim_bounded⟩
  unmix _ h := ⟨h.1, fun _ => rfl, h.2.target_zero, fun _ => rfl, fun _ _ => Nat.zero_le _⟩

/-- WAKING is entered with pace and mix at 0. -/
theorem paceAndBlend_enterWaking {s : State} (h : s.pace.applied ≤ fullPace) : PaceAndBlend (enterWaking s) := by
  rw [enterWaking, enterState_not_working rfl]
  exact paceAndBlend_changeState h nofun nofun

theorem paceAndBlend_loadingEnd {s : State} (h : PaceAndBlend s) : PaceAndBlend (loadingEnd s) := by
  have loaded : PaceAndBlend (loadStore s) := paceAndBlend_of_zero rfl rfl rfl rfl
  unfold loadingEnd
  split
  · unfold firstState
    split
    · dsimp only
      split <;> exact paceAndBlend_of_zero rfl rfl rfl rfl
    · split
      · exact loaded.congr (kernel_queueState _).symm
      · split
        · exact PaceAndBlend.congr (paceAndBlend_of_zero rfl rfl rfl rfl) (kernel_queueState _).symm
        · exact paceAndBlend_enterWaking (Nat.zero_le _)
  · exact h

/-- Every operation of the node keeps the bounds of pace and mix (R74, R85, R115, R117). -/
theorem paceAndBlend_kept : KeptBySteps PaceAndBlend where
  toKeptByChanges := paceAndBlend_keptByChanges
  reset _ _ := paceAndBlend_of_zero rfl rfl rfl rfl
  release _ _ s h := by
    unfold releaseReset
    split
    · exact h.of_fields rfl rfl rfl rfl rfl rfl
    · exact h
  loading _ _ _ _ h := h.of_fields rfl rfl rfl rfl rfl rfl
  loaded _ := paceAndBlend_loadingEnd
  aged _ _ h := h.of_fields rfl rfl rfl rfl rfl rfl
  pace c _ := paceAndBlend_paceWork c
  live _ _ := paceAndBlend_liveStage
  mix c path clamped _ := paceAndBlend_mixStage c path clamped
  newArm _ _ _ _ _ h := h.of_fields rfl rfl rfl rfl rfl rfl
  armed s ha h := paceAndBlend_changeState h.1.1
    (fun _ => h.1.2 (by rcases ha with ha | ha <;> rw [ha] <;> rfl)) nofun
  started _ _ _ _ _ _ _ := by
    unfold startRun
    refine paceAndBlend_keptByChanges.launched _ (paceAndBlend_changeState ?_ ?_ ?_)
    · exact Nat.zero_le _
    · nofun
    · intros; exact Nat.zero_le _
  popped _ _ _ _ _ _ h := by
    unfold popRun
    refine paceAndBlend_keptByChanges.launched _ (paceAndBlend_changeState ?_ ?_ ?_)
    · exact h.1.1
    · nofun
    · intros; exact Nat.zero_le _
  lease _ h := h.of_fields rfl rfl rfl rfl rfl rfl
  slotWrite s h := by
    obtain ⟨marks, slots, e⟩ := slotWriteEnd_frame s
    rw [e]; exact h.of_fields rfl rfl rfl rfl rfl rfl
  configWrite s _ h := by
    unfold configWriteEnd
    split
    · exact h
    · exact paceAndBlend_enterWaking h.1.1
  owned k act o hk s _ h := by
    rcases hk with rfl | rfl
    · obtain ⟨marks, slots, e⟩ := (o.markWork s).frame
      rw [e]; exact h.of_fields rfl rfl rfl rfl rfl rfl
    · obtain ⟨staged, write, e⟩ := o.config_frame s
      rw [e]; exact h.of_fields rfl rfl rfl rfl rfl rfl

end Sys2Proof.Machine
end

section
/-! ## Weights and shares -/

namespace Sys2Proof.Machine

theorem set_get {α : Type} (v : Vector α 64) (n m : MarkNo) (x : α) :
    (v.set n x)[m] = if n = m then x else v[m] := by
  simp [Vector.getElem_set, Fin.ext_iff]

/-! ### The slots of a save (R164, R165) -/

/-- The saved slots with the write of one begun. -/
def begunSlots (n : MarkNo) (v : Vector SavedSlot 64) : Vector SavedSlot 64 :=
  v.set n { v[n] with inProgress := true }

/-- The saved slots with one stored from the mark table. -/
def writtenSlots (n : MarkNo) (s : State) : Vector SavedSlot 64 :=
  s.nonvolatile.slots.set n { record := s.marks.table[n].record, inProgress := false }

/-- The mark table with the unsaved marker of one slot cleared. -/
def cleanedTable (n : MarkNo) (s : State) : Vector MarkSlot 64 :=
  s.marks.table.set n { record := s.marks.table[n].record, unsaved := false }

theorem begunSlots_record (n m : MarkNo) (v : Vector SavedSlot 64) : (begunSlots n v)[m].record = v[m].record := by
  rw [begunSlots, set_get]
  split
  · subst_vars; rfl
  · rfl

theorem writtenSlots_record (n m : MarkNo) (s : State) : (writtenSlots n s)[m].record =
    if n = m then s.marks.table[n].record else s.nonvolatile.slots[m].record := by
  rw [writtenSlots, set_get]
  split <;> rfl

theorem cleanedTable_record (n m : MarkNo) (s : State) :
    (cleanedTable n s)[m].record = s.marks.table[m].record := by
  rw [cleanedTable, set_get]
  split
  · subst_vars; rfl
  · rfl

theorem slotWriteEnd_idle {s : State} (h : s.marks.save = none) : slotWriteEnd s = s := by
  simp [slotWriteEnd, h]

/-- The end of a slot's write, with the next slot's begun or the save ended (R164). -/
theorem slotWriteEnd_saving {s : State} {p : SaveProgress} (h : s.marks.save = some p) : slotWriteEnd s =
    if next : p.slot.val + 1 < 64 then
      { s with marks := { s.marks with table := cleanedTable p.slot s,
                                       save := some { slot := ⟨p.slot.val + 1, next⟩, elapsed := 0 } },
               nonvolatile := { s.nonvolatile with
                 slots := begunSlots ⟨p.slot.val + 1, next⟩ (writtenSlots p.slot s) } }
    else { s with marks := { s.marks with table := cleanedTable p.slot s, save := none },
                  nonvolatile := { s.nonvolatile with slots := writtenSlots p.slot s } } := by
  simp only [slotWriteEnd, h]
  split <;> rfl

theorem targetOf_le {a : Authority} {share : Nat} (h : share ≤ fullWeight) : targetOf a share ≤ fullWeight := by
  cases a
  · exact le_rfl
  · exact h

/-- No field of a staged copy takes the share past full weight (R1, R160). -/
theorem setMarkField_share_le {low high : Int} {m m' : Mark} {f : MarkField} {v : Int}
    (h : setMarkField low high m f v = some m') (hm : m.share ≤ fullWeight) : m'.share ≤ fullWeight := by
  cases f with
  | position | duration | dwell | repeats => cases h; exact hm
  | share =>
    cases h
    change (clampInt 0 4096 v).toNat ≤ 4096
    unfold clampInt; omega
  | ease | authority | next | loopTo | endAction =>
    obtain ⟨x, -, rfl⟩ := Option.map_eq_some_iff.mp h
    exact hm
  | stop =>
    unfold setMarkField at h
    dsimp only at h
    split at h
    · cases h; exact hm
    · split at h
      · cases h; exact hm
      · cases h

/-- What a slot of the store loads as has the share it was saved with (R3). -/
theorem loadedTable_share_le {nv : Nonvolatile} (saved : ∀ (n : MarkNo) m, nv.slots[n].record = some m →
    m.share ≤ fullWeight) (n : MarkNo) (m : Mark) (h : (loadedTable nv)[n].record = some m) :
    m.share ≤ fullWeight := by
  have loaded (m : Mark) (h : (loadSlot nv.slots[n]).record = some m) : m.share ≤ fullWeight := by
    unfold loadSlot at h
    split at h
    · cases h
    · exact saved n m h
  unfold loadedTable at h
  dsimp only at h
  split at h
  · rw [mapSlots_get, mapSlots_get, clampSlot_record] at h
    obtain ⟨m', hm', rfl⟩ := Option.map_eq_some_iff.mp h
    exact loaded m' hm'
  · rw [mapSlots_get] at h
    exact loaded m h

namespace WeightsBounded

theorem congr {s t : State} (h : WeightsBounded s) (same : kernel s = kernel t) : WeightsBounded t := by
  have hc : s.control = t.control := congrArg (·.control) same
  have hm : s.marks = t.marks := congrArg (·.marks) same
  have hn : s.nonvolatile = t.nonvolatile := congrArg (·.nonvolatile) same
  have hw : s.blend.weight = t.blend.weight := congrArg (·.weight) same
  have ht : s.blend.weightTarget = t.blend.weightTarget := congrArg (·.weightTarget) same
  exact ⟨hw ▸ h.weight, ht ▸ h.target, hc ▸ h.run, hc ▸ h.arm, hc ▸ h.stack, hm ▸ h.marks, hn ▸ h.saved,
    hm ▸ h.staged⟩

/-- Run control may hold other records, as long as their shares are bounded. -/
theorem withControl {s : State} (h : WeightsBounded s) {c : RunControl}
    (run : ∀ r, c.run = some r → r.share ≤ fullWeight) (arm : ∀ a, c.arm = some a → a.share ≤ fullWeight)
    (stack : ∀ r ∈ c.stack, r.share ≤ fullWeight) : WeightsBounded { s with control := c } :=
  ⟨h.weight, h.target, run, arm, stack, h.marks, h.saved, h.staged⟩

/-- The mark store may hold other marks, as long as their shares are bounded. -/
theorem withMarks {s : State} (h : WeightsBounded s) {marks : MarkStore}
    (table : ∀ (n : MarkNo) m, marks.table[n].record = some m → m.share ≤ fullWeight)
    (staged : ∀ e, marks.edit = some e → e.staged.share ≤ fullWeight) :
    WeightsBounded { s with marks := marks } :=
  ⟨h.weight, h.target, h.run, h.arm, h.stack, table, h.saved, staged⟩

theorem edit {s : State} {c : RunControl} (same : NoNewRecords s.control c) (h : WeightsBounded s) :
    WeightsBounded { s with control := c } := by
  refine h.withControl (fun r' hr' => ?_) (fun a' ha' => ?_) (fun r hr => h.stack r (same.stack r hr))
  · obtain ⟨r, hr, e, -⟩ := same.run r' hr'
    exact e ▸ h.run r hr
  · obtain ⟨a, ha, e, -⟩ := same.arm a' ha'
    exact e ▸ h.arm a ha

/-- A change of axis state keeps records or drops them. -/
theorem changeState (new : AxisState) {s : State} (h : WeightsBounded s) : WeightsBounded (changeState new s) := by
  constructor
  · rw [changeState_weight]; split
    · exact h.weight
    · exact Nat.zero_le _
  · rw [changeState_weightTarget]; split
    · exact h.target
    · exact Nat.zero_le _
  · rw [changeState_control, keepRecords_run]; split
    · exact h.run
    · exact fun _ hr => nomatch hr
  · rw [changeState_control, keepRecords_arm]; split
    · exact h.arm
    · exact fun _ ha => nomatch ha
  · rw [changeState_control, keepRecords_stack]; split
    · exact h.stack
    · exact fun _ hr => absurd hr List.not_mem_nil
  · simpa using h.marks
  · simpa using h.saved
  · simpa using h.staged

theorem keptByChanges : KeptByChanges WeightsBounded where
  congr := congr
  edit _ _ := edit
  enter new _ _ _ _ := changeState new
  untarget _ h := ⟨h.weight, Nat.zero_le _, h.run, h.arm, h.stack, h.marks, h.saved, h.staged⟩
  unmix _ h := ⟨Nat.zero_le _, h.target, h.run, h.arm, h.stack, h.marks, h.saved, h.staged⟩

theorem enterWaking {s : State} (h : WeightsBounded s) : WeightsBounded (enterWaking s) := by
  rw [Machine.enterWaking, enterState_not_working rfl]
  refine changeState _ (congr (h.edit (c := { s.control with settle := some 0 }) ?_) ?_)
  · exact noNewRecords_of_eq rfl rfl rfl rfl
  · rfl

/-- A node with no run and no edit, its marks those that its store loads as. -/
theorem of_loaded {s t : State} (h : WeightsBounded s) (store : t.nonvolatile = s.nonvolatile)
    (table : t.marks.table = loadedTable s.nonvolatile) (weight : t.blend.weight = 0)
    (target : t.blend.weightTarget = 0) (run : t.control.run = none) (arm : t.control.arm = none)
    (stack : t.control.stack = []) (edit : t.marks.edit = none) : WeightsBounded t where
  weight := by simp [weight]
  target := by simp [target]
  run := by simp [run]
  arm := by simp [arm]
  stack := by simp [stack]
  marks := table ▸ loadedTable_share_le h.saved
  saved := store ▸ h.saved
  staged := by simp [edit]

theorem resetNode {s : State} (h : WeightsBounded s) : WeightsBounded (resetNode s) :=
  ⟨Nat.zero_le _, Nat.zero_le _, fun _ hr => (nomatch hr), fun _ ha => (nomatch ha),
    fun _ hr => absurd hr List.not_mem_nil,
    fun n m hm => by simp [Machine.resetNode, State.reset, MarkStore.reset] at hm, h.saved, fun _ he => (nomatch he)⟩

theorem loadingEnd {s : State} (h : WeightsBounded s) : WeightsBounded (loadingEnd s) := by
  unfold Machine.loadingEnd
  split
  · unfold firstState
    split
    · dsimp only
      split <;> exact of_loaded h rfl rfl rfl rfl rfl rfl rfl rfl
    · split
      · refine congr ?_ (kernel_queueState _).symm
        exact of_loaded h rfl rfl rfl rfl rfl rfl rfl rfl
      · split
        · refine congr ?_ (kernel_queueState _).symm
          exact of_loaded h rfl rfl rfl rfl rfl rfl rfl rfl
        · exact enterWaking (of_loaded h rfl rfl rfl rfl rfl rfl rfl rfl)
  · exact h

theorem mixStage (c : Configuration) (path : Option Int) (clamped : Bool) {s : State} (h : WeightsBounded s) :
    WeightsBounded (mixStage c path clamped s).state := by
  have weights := mixStage_weight c path clamped s
  have targets := mixStage_weightTarget c path clamped s
  rw [mixStage_state] at weights targets ⊢
  refine ⟨?_, targets.trans_le h.target, h.run, h.arm, h.stack, h.marks, h.saved, h.staged⟩
  rcases weights with e | e
  · exact e.trans_le h.weight
  · refine e.trans_le ?_
    split
    · exact stepWeight_le h.weight h.target
    · exact Nat.zero_le _

/-- A run that starts takes its share from the arm record or the stack it leaves, and its weight target from the share
(R43, R49, R114). -/
theorem launched {s : State} (old : AxisState) (h : WeightsBounded s) (r : RunContext) (a : Option ArmRecord)
    (stack : List RunContext) (share : r.share ≤ fullWeight) (armed : ∀ x, a = some x → x.share ≤ fullWeight)
    (stacked : ∀ q ∈ stack, q.share ≤ fullWeight) (pace : PaceUnit) (live : LiveUnit) (x : Option Int) :
    WeightsBounded (readStop old (queuePace (Machine.changeState .running { s with
      control := { s.control with run := some r, arm := a, stack := stack, cueResult := .noResult },
      pace := pace, live := live,
      blend := { s.blend with trim := 0, live := x, weightTarget := targetOf r.authority r.share } }))) :=
  keptByChanges.launched old (changeState .running
    ⟨h.weight, targetOf_le share, fun _ hq => Option.some.inj hq ▸ share, armed, stacked, h.marks, h.saved, h.staged⟩)

theorem slotWriteEnd {s : State} (h : WeightsBounded s) : WeightsBounded (slotWriteEnd s) := by
  rcases hp : s.marks.save with _ | p
  · rwa [slotWriteEnd_idle hp]
  have stored (n : MarkNo) (m : Mark) (hm : (writtenSlots p.slot s)[n].record = some m) : m.share ≤ fullWeight := by
    rw [writtenSlots_record] at hm
    split at hm
    · exact h.marks _ m hm
    · exact h.saved n m hm
  have table (n : MarkNo) (m : Mark) (hm : (cleanedTable p.slot s)[n].record = some m) : m.share ≤ fullWeight := by
    rw [cleanedTable_record] at hm
    exact h.marks n m hm
  rw [slotWriteEnd_saving hp]
  split
  · refine ⟨h.weight, h.target, h.run, h.arm, h.stack, table, fun n m hm => ?_, h.staged⟩
    rw [begunSlots_record] at hm
    exact stored n m hm
  · exact ⟨h.weight, h.target, h.run, h.arm, h.stack, table, stored, h.staged⟩

/-- The mark store's commands store shares of marks already there, of start values, or clamped (R1, R159, R160). -/
theorem markWork {s t : State} (h : WeightsBounded s) (w : MarkWork s t) : WeightsBounded t := by
  cases w with
  | nothing => exact h
  | staged e _ source =>
    refine h.withMarks h.marks fun e' he' => Option.some.inj he' ▸ ?_
    rcases source with hm | ⟨x, hx⟩ | ⟨old, low, high, field, v, hold, hm⟩
    · exact h.marks _ _ hm
    · rw [hx]; exact le_rfl
    · exact setMarkField_share_le hm (h.staged old hold)
  | discarded => exact h.withMarks h.marks fun _ he => nomatch he
  | slotted n slot edit _ source =>
    have slot_le (m : Mark) (hm : slot.record = some m) : m.share ≤ fullWeight := by
      rcases source with ⟨empty, -⟩ | ⟨e, he, hs, -⟩
      · exact nomatch empty.symm.trans hm
      · exact Option.some.inj (hs.symm.trans hm) ▸ h.staged e he
    refine h.withMarks (fun n' m hm => ?_) fun e he => ?_
    · rw [set_get] at hm
      split at hm
      · exact slot_le m hm
      · exact h.marks n' m hm
    · rcases source with ⟨-, rfl⟩ | ⟨-, -, -, rfl⟩
      · exact h.staged e he
      · exact nomatch he
  | saving =>
    refine ⟨h.weight, h.target, h.run, h.arm, h.stack, h.marks, fun n m hm => ?_, h.staged⟩
    change (begunSlots 0 s.nonvolatile.slots)[n].record = some m at hm
    rw [begunSlots_record] at hm
    exact h.saved n m hm

/-- Every operation of the node keeps the weights and shares in 0 to 4096 (R1, R114, R115). -/
theorem kept : KeptBySteps WeightsBounded where
  toKeptByChanges := keptByChanges
  reset _ := resetNode
  release _ _ s h := by
    unfold releaseReset
    split
    · exact ⟨h.weight, h.target, h.run, h.arm, h.stack, h.marks, h.saved, h.staged⟩
    · exact h
  loading _ _ _ _ h := ⟨h.weight, h.target, h.run, h.arm, h.stack, h.marks, h.saved, h.staged⟩
  loaded _ := loadingEnd
  aged s _ h := by
    refine ⟨h.weight, h.target, h.run, fun a' ha' => ?_, h.stack, h.marks, h.saved, fun e' he' => ?_⟩
    · obtain ⟨a, ha, rfl⟩ := Option.map_eq_some_iff.mp ha'
      exact h.arm a ha
    · obtain ⟨e, he, rfl⟩ := Option.map_eq_some_iff.mp he'
      exact h.staged e he
  pace _ _ h := ⟨h.weight, h.target, h.run, h.arm, h.stack, h.marks, h.saved, h.staged⟩
  live c s _ h := by
    obtain ⟨_, _, _, e⟩ := liveStage_frame c s
    rw [e]
    exact ⟨h.weight, h.target, h.run, h.arm, h.stack, h.marks, h.saved, h.staged⟩
  mix c path clamped _ := mixStage c path clamped
  newArm a s _ _ first h := by
    obtain ⟨m, hm, share⟩ := first
    exact h.withControl h.run (fun a' ha' => Option.some.inj ha' ▸ share ▸ h.marks _ m hm) h.stack
  armed _ _ := changeState .armed
  started a stack s _ ha old h := by
    refine h.launched s.control.axisState (freshRun a (presentSetpoint s.blend) (markAt s a.first)) none stack (h.arm a ha)
      (fun _ h => nomatch h) (fun r hr => ?_) _ _ _
    obtain ⟨q, run | stacked, e⟩ := old r hr
    · exact e ▸ h.run q run
    · exact e ▸ h.stack q stacked
  popped duration top rest s _ hs h :=
    h.launched s.control.axisState (returningRun (presentSetpoint s.blend) duration top) s.control.arm rest
      (h.stack top (hs ▸ List.mem_cons_self)) h.arm (fun q hq => h.stack q (hs ▸ List.mem_cons_of_mem _ hq)) _ _ _
  lease _ h := ⟨h.weight, h.target, h.run, h.arm, h.stack, h.marks, h.saved, fun _ he => nomatch he⟩
  slotWrite _ := slotWriteEnd
  configWrite s _ h := by
    unfold configWriteEnd
    split
    · exact h
    · refine enterWaking ⟨h.weight, h.target, h.run, h.arm, h.stack, fun n m hm => ?_, h.saved, h.staged⟩
      change (mapSlots (clampSlot _) s.marks.table)[n].record = some m at hm
      rw [mapSlots_get, clampSlot_record] at hm
      obtain ⟨m', hm', rfl⟩ := Option.map_eq_some_iff.mp hm
      exact h.marks n m' hm'
  owned k act o hk s _ h := by
    rcases hk with rfl | rfl
    · exact h.markWork (o.markWork s)
    · obtain ⟨staged, write, e⟩ := o.config_frame s
      rw [e]; exact ⟨h.weight, h.target, h.run, h.arm, h.stack, h.marks, h.saved, h.staged⟩

end WeightsBounded

/-- Settles O56: pace, mix and weights are bounded by what every operation of the node keeps. -/
theorem stepKeepsPaceAndBlendBounded : Obligations.StepKeepsPaceAndBlendBounded :=
  ⟨fun _ _ h step => paceAndBlend_kept.keptByNode.step h step,
    fun _ _ h step => WeightsBounded.kept.keptByNode.step h step⟩

end Sys2Proof.Machine
end

section
/-! ## Chain sets keep their marks -/

namespace Sys2Proof.Machine

theorem inChainSet_iff {c : RunControl} {n : MarkNo} : inChainSet c n = true ↔ HeldInAChain c n := by
  simp [inChainSet, HeldInAChain, Option.any_eq_true, or_assoc]

namespace NoChainInSetup

/-- The law speaks of run control's records, the reset phase and the configuration write. -/
theorem of_fields {s t : State} (h : NoChainInSetup s) (phase : t.startup.phase = s.startup.phase)
    (write : t.startup.write = s.startup.write) (control : t.control = s.control) : NoChainInSetup t where
  no_chain := by rw [phase, control]; exact h.no_chain
  write_in_setup := by rw [write, control]; exact h.write_in_setup

/-- Outside SETUP no configuration write runs. -/
theorem no_write {s : State} (h : NoChainInSetup s) (hn : s.control.axisState ≠ .setup) : s.startup.write = none :=
  by_contra fun hw => hn (h.write_in_setup hw)

/-- A node that runs outside SETUP, with no configuration write, meets the law. -/
theorem of_running {s : State} (phase : s.startup.phase = .running) (write : s.startup.write = none)
    (hn : s.control.axisState ≠ .setup) : NoChainInSetup s where
  no_chain := fun h => h.elim (absurd phase) (absurd · hn)
  write_in_setup := fun h => absurd write h

/-- A held mark means that the node runs outside SETUP. -/
theorem running_of_held {s : State} (h : NoChainInSetup s) {n : MarkNo} (held : HeldInAChain s.control n) :
    s.startup.phase = .running ∧ s.control.axisState ≠ .setup := by
  by_contra hc
  obtain ⟨run, arm, stack⟩ := h.no_chain (by tauto)
  simp [HeldInAChain, run, arm, stack] at held

theorem edit {s : State} {c : RunControl} (same : NoNewRecords s.control c) (h : NoChainInSetup s) :
    NoChainInSetup { s with control := c } where
  no_chain hs := by
    obtain ⟨run, arm, stack⟩ := h.no_chain (same.axisState ▸ hs)
    refine ⟨Option.eq_none_iff_forall_not_mem.mpr fun r' hr' => ?_,
      Option.eq_none_iff_forall_not_mem.mpr fun a' ha' => ?_,
      List.eq_nil_iff_forall_not_mem.mpr fun r hr => ?_⟩
    · obtain ⟨r, hr, -⟩ := same.run r' hr'
      exact nomatch run.symm.trans hr
    · obtain ⟨a, ha, -⟩ := same.arm a' ha'
      exact nomatch arm.symm.trans ha
    · exact absurd (same.stack r hr) (stack ▸ List.not_mem_nil)
  write_in_setup hw := same.axisState.trans (h.write_in_setup hw)

theorem changeState {new : AxisState} {s : State} (hnew : new ≠ .setup) (hn : s.control.axisState ≠ .setup)
    (h : NoChainInSetup s) : NoChainInSetup (changeState new s) where
  no_chain hs := by
    have early : s.startup.phase ≠ .running := hs.elim (by simp) (fun e => absurd (by simpa using e) hnew)
    obtain ⟨run, arm, stack⟩ := h.no_chain (.inl early)
    simp [run, arm, stack]
  write_in_setup hw := absurd (h.no_write hn) (by simpa using hw)

theorem congr {s t : State} (h : NoChainInSetup s) (same : kernel s = kernel t) : NoChainInSetup t :=
  h.of_fields (congrArg (·.startup.phase) same).symm (congrArg (·.startup.write) same).symm
    (congrArg (·.control) same).symm

theorem keptByChanges : KeptByChanges NoChainInSetup where
  congr := congr
  edit _ _ := edit
  enter _ _ h1 _ h2 := changeState h1 h2
  untarget _ h := h.of_fields rfl rfl rfl
  unmix _ h := h.of_fields rfl rfl rfl

/-- A run that starts on a running node outside SETUP. -/
theorem launched {s : State} (old : AxisState) (phase : s.startup.phase = .running) (write : s.startup.write = none) :
    NoChainInSetup (readStop old (queuePace (Machine.changeState .running s))) :=
  keptByChanges.launched old (of_running (by simpa using phase) (by simpa using write) (by simp))

theorem loadingEnd {s : State} (h : NoChainInSetup s) : NoChainInSetup (loadingEnd s) := by
  have empty {t : State} (run : t.control.run = none) (arm : t.control.arm = none) (stack : t.control.stack = [])
      (write : t.startup.write = none) : NoChainInSetup t :=
    ⟨fun _ => ⟨run, arm, stack⟩, absurd write⟩
  unfold Machine.loadingEnd
  split
  · unfold firstState
    split
    · dsimp only
      split <;> exact empty rfl rfl rfl rfl
    · split
      · exact congr (empty rfl rfl rfl rfl) (kernel_queueState _).symm
      · split
        · exact congr (empty rfl rfl rfl rfl) (kernel_queueState _).symm
        · rw [enterWaking, enterState_not_working rfl]
          refine of_running ?_ ?_ ?_
          · rw [changeState_startup]; rfl
          · rw [changeState_startup]; rfl
          · simp
  · exact h

theorem configWriteEnd {s : State} (phase : s.startup.phase = .running) (h : NoChainInSetup s) :
    NoChainInSetup (configWriteEnd s) := by
  unfold Machine.configWriteEnd
  split
  · exact h
  · rw [enterWaking, enterState_not_working rfl]
    refine of_running ?_ ?_ ?_
    · rw [changeState_startup]; exact phase
    · rw [changeState_startup]; rfl
    · simp

/-- Every operation of the node keeps chains out of SETUP, reset and loading, and configuration writes in SETUP (R7,
R21, R180, R181). -/
theorem kept : KeptBySteps NoChainInSetup where
  toKeptByChanges := keptByChanges
  reset _ _ := ⟨fun _ => ⟨rfl, rfl, rfl⟩, absurd rfl⟩
  release _ _ s h := by
    unfold releaseReset
    split
    · rename_i hp
      exact ⟨fun _ => h.no_chain (.inl (by rw [hp]; nofun)), h.write_in_setup⟩
    · exact h
  loading _ _ _ hp h := ⟨fun _ => h.no_chain (.inl (by rw [hp]; nofun)), h.write_in_setup⟩
  loaded _ := loadingEnd
  aged s _ h := by
    refine ⟨fun hs => ?_, fun hw => h.write_in_setup fun e => hw ?_⟩
    · obtain ⟨run, arm, stack⟩ := h.no_chain hs
      exact ⟨run, Option.map_eq_none_iff.mpr arm, stack⟩
    · exact Option.map_eq_none_iff.mpr e
  pace _ _ h := h.of_fields rfl rfl rfl
  live c s _ h := by
    obtain ⟨_, _, _, e⟩ := liveStage_frame c s
    rw [e]; exact h.of_fields rfl rfl rfl
  mix c path clamped s h := by
    rw [mixStage_state]; exact h.of_fields rfl rfl rfl
  newArm _ _ phase hn _ h := of_running phase (h.no_write hn) hn
  armed s ha h := changeState nofun (by rcases ha with ha | ha <;> rw [ha] <;> nofun) h
  started a stack s hn ha _ h := by
    have phase : s.startup.phase = .running :=
      by_contra fun hp => nomatch ha.symm.trans (h.no_chain (.inl hp)).2.1
    exact launched _ phase (h.no_write hn)
  popped duration top rest s hn hs h := by
    have phase : s.startup.phase = .running :=
      by_contra fun hp => nomatch hs.symm.trans (h.no_chain (.inl hp)).2.2
    exact launched _ phase (h.no_write hn)
  lease _ h := h.of_fields rfl rfl rfl
  slotWrite s h := by
    obtain ⟨_, _, e⟩ := slotWriteEnd_frame s
    rw [e]; exact h.of_fields rfl rfl rfl
  configWrite _ := configWriteEnd
  owned k act o hk s taken h := by
    rcases hk with rfl | rfl
    · obtain ⟨_, _, e⟩ := (o.markWork s).frame
      rw [e]; exact h.of_fields rfl rfl rfl
    · have setup : s.control.axisState = .setup := by
        revert taken; cases s.control.axisState <;> simp [gate]
      obtain ⟨_, _, e⟩ := o.config_frame s
      rw [e]; exact ⟨h.no_chain, fun _ => setup⟩

end NoChainInSetup

/-! ### The records of held marks -/

/-- The stores with their marks' records, as they stood before. -/
def RecordsStand (s t : State) : Prop :=
  t.startup.write = none ∧ ∀ n : MarkNo, t.marks.table[n].record = s.marks.table[n].record

theorem RecordsStand.of_stores {s t u : State} (h : RecordsStand s t) (same : stores u = stores t) :
    RecordsStand s u := by
  have startup : u.startup = t.startup := congrArg (·.startup) same
  have marks : u.marks = t.marks := congrArg (·.marks) same
  exact ⟨startup ▸ h.1, marks ▸ h.2⟩

/-- Without a configuration write no event of the node changes a mark's record: a save writes markers alone (R164). -/
theorem RecordsStand.event {s t : State} (h : RecordsStand s t) {f : State → State} (e : Event f) :
    RecordsStand s (f t) := by
  rcases e.stores t with same | rfl | rfl | rfl
  · exact h.of_stores same
  · exact h
  · refine ⟨slotWriteEnd_startup t ▸ h.1, fun n => ?_⟩
    rcases hp : t.marks.save with _ | p
    · rw [slotWriteEnd_idle hp]; exact h.2 n
    · rw [slotWriteEnd_saving hp]
      split <;> exact (cleanedTable_record p.slot n t).trans (h.2 n)
  · have idle : configWriteEnd t = t := by simp [configWriteEnd, h.1]
    rwa [idle]

/-- No COMMAND changes the record of a mark that a chain set holds: MARK_CLOSE and MARK_ERASE are BUSY (R7, R161,
R162). -/
theorem MarkWork.record {s t : State} (w : MarkWork s t) {n : MarkNo} (held : inChainSet s.control n = true) :
    t.marks.table[n].record = s.marks.table[n].record := by
  cases w with
  | nothing | staged | discarded | saving => rfl
  | slotted i slot edit free =>
    change (s.marks.table.set i slot)[n].record = _
    rw [set_get, if_neg (by rintro rfl; exact free held)]

theorem Owner.record {k : CommandClass} {act : State → Answer} (o : Owner k act) {s : State} {n : MarkNo}
    (held : inChainSet s.control n = true) :
    (act s).state.marks.table[n].record = s.marks.table[n].record := by
  have kept {t : State} (same : stores t = stores s) : t.marks.table[n].record = s.marks.table[n].record :=
    congrArg (·.marks.table[n].record) same
  have configured (o : Owner .config act) :
      (act s).state.marks.table[n].record = s.marks.table[n].record := by
    obtain ⟨_, _, e⟩ := o.config_frame s
    rw [e]
  cases o with
  | markOpen head args => exact ((Owner.markOpen head args).markWork s).record held
  | markSet head args => exact ((Owner.markSet head args).markWork s).record held
  | markClose head args => exact ((Owner.markClose head args).markWork s).record held
  | markErase args => exact ((Owner.markErase args).markWork s).record held
  | save => exact (Owner.save.markWork s).record held
  | configSet args => exact configured (.configSet args)
  | configDone => exact configured .configDone
  | markRead args => rw [takeMarkRead_state]
  | peerRead args => rw [takePeerRead_state]
  | park =>
    unfold takePark
    split
    · exact kept (stores_parkNode s)
    · rfl
  | wake => exact kept (stores_enterWaking s)
  | clear =>
    unfold takeClear
    split
    · split
      · exact kept (stores_clearFault _ s)
      · rfl
    · rfl
  | unknown => rfl

/-- Outside SETUP a running node's step, but for a RESET, leaves the records of held marks. -/
theorem step_keeps_held {s t : State} (phase : s.startup.phase = .running) (write : s.startup.write = none)
    (h : Machine.step s = .next t) {n : MarkNo} (held : HeldInAChain s.control n)
    (noReset : s.pending.head? ≠ some .reset) : t.marks.table[n].record = s.marks.table[n].record := by
  have stand : RecordsStand s s := ⟨write, fun _ => rfl⟩
  have kept {u v : State} (same : stores v = stores u) : v.marks.table[n].record = u.marks.table[n].record :=
    congrArg (·.marks.table[n].record) same
  rcases hq : s.pending with _ | ⟨c, rest⟩
  · obtain rfl : tick s = t := Host.Outcome.next.inj (by rw [← h, Machine.step, hq])
    refine (running_tick_keeps (P := RecordsStand s) (fun u _ hu => ⟨?_, hu.2⟩) (fun f e u _ hu => hu.event e)
      phase stand).2 n
    exact Option.map_eq_none_iff.mpr hu.1
  · rw [Machine.step, hq] at h
    obtain ⟨u, hu, e⟩ := exec_effect c { s with pending := rest }
    obtain rfl : u = t := Host.Outcome.next.inj (hu.symm.trans h)
    cases e with
    | reset => exact absurd (by rw [hq]; rfl) noReset
    | release => simp [releaseReset, phase]
    | loaded => simp [loadingEnd, phase]
    | pin | nothing => rfl
    | event _ e => exact (RecordsStand.event (t := { s with pending := rest }) stand e).2 n
    | frame _ e => exact kept ((e.stores _).trans (stores_of_kernel (kernel_hear _ _ _)))
    | refused _ head => exact kept (stores_of_kernel (kernel_heardFrom _ { s with pending := rest }))
    | answered _ head o =>
      have heard : stores (heardFrom head.sender { s with pending := rest }) = stores s :=
        stores_of_kernel (kernel_heardFrom _ _)
      refine (o.record (s := heardFrom head.sender { s with pending := rest }) ?_).trans (kept heard)
      simpa [heardFrom] using inChainSet_iff.mpr held

/-- Settles O60: a held mark means a running node outside SETUP, where no configuration write runs, and there only
MARK_CLOSE and MARK_ERASE write a slot, of a mark that no chain set holds. -/
theorem chainSetsKeepTheirMarks : Obligations.ChainSetsKeepTheirMarks := by
  intro s t h step
  refine ⟨NoChainInSetup.kept.keptByNode.step h step, fun n held noReset => ?_⟩
  obtain ⟨phase, hn⟩ := h.running_of_held held
  exact step_keeps_held phase (h.no_write hn) step held noReset

end Sys2Proof.Machine
end

section
/-! ## The node in reset -/

namespace Sys2Proof.Machine

theorem setpointsWithin_reset : SetpointsWithin State.reset where
  in_force _ h := nomatch h
  stored _ h := nomatch h
  written _ h := nomatch h
  steered := by decide
  positioned := by decide
  captured h := nomatch h
  enabled h := nomatch h
  history _ _ h := nomatch h
  live _ _ h := nomatch h

theorem weightsBounded_reset : WeightsBounded State.reset where
  weight := Nat.zero_le _
  target := Nat.zero_le _
  run _ h := nomatch h
  arm _ h := nomatch h
  stack _ h := absurd h List.not_mem_nil
  marks n m h := by simp [State.reset, MarkStore.reset] at h
  saved n m h := by simp [State.reset, Nonvolatile.blank] at h
  staged _ h := nomatch h

theorem recordsFit_reset : RecordsFit State.reset where
  run_present := rfl
  arm_allowed h := nomatch h
  armed_cue h := nomatch h
  stack_allowed h := absurd rfl h
  stack_room := Nat.zero_le _
  halt_cause := rfl
  hold_cause := rfl
  settle_timer := rfl
  fault_cause := rfl

theorem peersLawful_reset : PeersLawful State.reset where
  rising := List.Pairwise.nil
  no_zero _ h := absurd h List.not_mem_nil
  not_own _ h := absurd h List.not_mem_nil
  empty_before _ := rfl

/-- In reset the enable output is off, whatever the axis state. -/
theorem enableLawful_reset : EnableLawful State.reset :=
  ⟨fun _ => rfl, fun _ => rfl, fun _ _ => rfl, fun _ _ => rfl, fun _ _ => rfl⟩

/-- Settles O53: each law is read off the reset values. -/
theorem resetMeetsTheLaws : Obligations.ResetMeetsTheLaws := by
  have pace : PaceAndBlend State.reset := paceAndBlend_of_zero rfl rfl rfl rfl
  refine ⟨recordsFit_reset, ?stop, pace.1, pace.2, weightsBounded_reset, setpointsWithin_reset, enableLawful_reset,
    ?bus, peersLawful_reset, .inl rfl, fun _ => ⟨rfl, rfl, rfl⟩, absurd rfl⟩
  case stop => exact fun running => nomatch running
  case bus => exact ⟨Nat.zero_le _, Nat.zero_le _⟩

end Sys2Proof.Machine
end

section
/-! ## Saving -/

namespace Sys2Proof.Machine

/-- In a state that takes mark commands R156 answers nothing at once. -/
theorem gate_edit {st : AxisState} (h : TakesMarkCommands st) : gate .edit st = none := by
  rcases h with h | rfl | rfl
  · revert h; cases st <;> simp [working, gate]
  · rfl
  · rfl

theorem not_parked_of_takesMarkCommands {st : AxisState} (h : TakesMarkCommands st) : st ≠ .parked := by
  rintro rfl
  exact absurd h (by decide)

/-- A mark command where mark commands are taken: the reply is its owner's (R154, R156). -/
theorem command_edit {h : CommandHeader} {s : State} (taken : Taken h s) (takes : TakesMarkCommands s.control.axisState)
    (act : State → Answer) : command h .edit act s =
      sendReply h (act (heardFrom h.sender s)).result (act (heardFrom h.sender s)).data
        (act (heardFrom h.sender s)).state := by
  rw [command_taken taken .edit act (.inl (not_parked_of_takesMarkCommands takes)), gate_edit takes]

/-- Settles O48: a SAVE begins slot 0, and each slot's end stores it and begins the next. -/
theorem saveWritesEverySlotInTurn : Obligations.SaveWritesEverySlotInTurn := by
  intro s begun
  refine ⟨fun h args taken takes => ?_, fun p running saving => ?_⟩
  · have marks : (heardFrom h.sender s).marks = s.marks := hear_marks _ _ s
    have store : (heardFrom h.sender s).nonvolatile = s.nonvolatile := hear_nonvolatile _ _ s
    have run : exec (.save h args) s = .next (sendReply h (takeSave (heardFrom h.sender s)).result
        (takeSave (heardFrom h.sender s)).data (takeSave (heardFrom h.sender s)).state) :=
      congrArg _ (command_edit taken takes takeSave)
    have busy : (s.marks.save ≠ none ∨ s.marks.edit ≠ none) ↔
        (s.marks.save.isSome || s.marks.edit.isSome) = true := by
      simp [Option.isSome_iff_ne_none]
    dsimp only
    rw [run]
    simp only [busy, takeSave, marks]
    split
    · rfl
    · simp only [beginSlotWrite, marks, store]; rfl
  · dsimp only
    rw [exec, execSaveSlotWriteEnd, whenRunning_running running, slotWriteEnd_saving saving]
    rfl

end Sys2Proof.Machine
end

section
/-! ## The walk of a chain -/

namespace Sys2Proof.Machine

theorem mem_linksOf {table : Vector MarkSlot 64} {n k : MarkNo} : k ∈ linksOf table n ↔
    ∃ m, table[n].record = some m ∧ (m.next = some k ∨ m.loopTo = some k) := by
  rcases h : table[n].record with _ | m
  · simp only [linksOf, h]; simp
  · simp only [linksOf, h]; simp

theorem linksOf_length_le (table : Vector MarkSlot 64) (n : MarkNo) : (linksOf table n).length ≤ 2 := by
  have one (o : Option MarkNo) : o.toList.length ≤ 1 := by cases o <;> simp
  unfold linksOf
  split
  · rename_i m _
    rw [List.length_append]
    exact Nat.add_le_add (one _) (one _)
  · exact Nat.zero_le _

theorem reaches_link {table : Vector MarkSlot 64} {first n k : MarkNo} (h : Reaches table first n)
    (hk : k ∈ linksOf table n) : Reaches table first k := by
  obtain ⟨m, hm, next | loop⟩ := mem_linksOf.mp hk
  · exact .next n k m h hm next
  · exact .loopTo n k m h hm loop

/-- What holds all along the walk: what was seen is reachable and stands once, what is still to visit is reachable, and
every link of a seen mark is seen or still to visit. -/
structure Walking (table : Vector MarkSlot 64) (first : MarkNo) (todo seen : List MarkNo) : Prop where
  nodup : seen.Nodup
  seen_reached : ∀ n ∈ seen, Reaches table first n
  todo_reached : ∀ n ∈ todo, Reaches table first n
  links : ∀ n ∈ seen, ∀ k ∈ linksOf table n, k ∈ seen ∨ k ∈ todo
  start : first ∈ seen ∨ first ∈ todo

/-- A mark seen before is passed over. -/
theorem Walking.skip {table : Vector MarkSlot 64} {first n : MarkNo} {todo seen : List MarkNo}
    (w : Walking table first (n :: todo) seen) (hn : n ∈ seen) : Walking table first todo seen := by
  have kept {k : MarkNo} (h : k ∈ seen ∨ k ∈ n :: todo) : k ∈ seen ∨ k ∈ todo := by
    rcases h with h | h
    · exact .inl h
    · rcases List.mem_cons.mp h with rfl | h
      · exact .inl hn
      · exact .inr h
  exact ⟨w.nodup, w.seen_reached, fun k hk => w.todo_reached k (List.mem_cons_of_mem _ hk),
    fun k hk i hi => kept (w.links k hk i hi), kept w.start⟩

/-- A new mark is seen, and its links are still to visit. -/
theorem Walking.visit {table : Vector MarkSlot 64} {first n : MarkNo} {todo seen : List MarkNo}
    (w : Walking table first (n :: todo) seen) (hn : n ∉ seen) :
    Walking table first (linksOf table n ++ todo) (n :: seen) := by
  have reached : Reaches table first n := w.todo_reached n List.mem_cons_self
  have kept {k : MarkNo} (h : k ∈ seen ∨ k ∈ n :: todo) : k ∈ n :: seen ∨ k ∈ linksOf table n ++ todo := by
    rcases h with h | h
    · exact .inl (List.mem_cons_of_mem _ h)
    · rcases List.mem_cons.mp h with rfl | h
      · exact .inl List.mem_cons_self
      · exact .inr (List.mem_append_right _ h)
  refine ⟨List.nodup_cons.mpr ⟨hn, w.nodup⟩, fun k hk => ?_, fun k hk => ?_, fun k hk i hi => ?_, kept w.start⟩
  · rcases List.mem_cons.mp hk with rfl | hk
    · exact reached
    · exact w.seen_reached k hk
  · rcases List.mem_append.mp hk with hk | hk
    · exact reaches_link reached hk
    · exact w.todo_reached k (List.mem_cons_of_mem _ hk)
  · rcases List.mem_cons.mp hk with rfl | hk
    · exact .inr (List.mem_append_left _ hi)
    · exact kept (w.links k hk i hi)

/-- Each take shortens what is to visit by one, or sees one more of the 64 marks and adds two links at most; with enough
takes nothing is left to visit. -/
theorem walk_ends (table : Vector MarkSlot 64) (first : MarkNo) (fuel : Nat) (todo seen : List MarkNo)
    (w : Walking table first todo seen) (enough : todo.length + 2 * (64 - seen.length) ≤ fuel) :
    Walking table first [] (walk table fuel todo seen) := by
  induction fuel generalizing todo seen with
  | zero =>
    obtain rfl : todo = [] := List.eq_nil_of_length_eq_zero (by omega)
    exact w
  | succ fuel ih =>
    rcases todo with _ | ⟨n, todo⟩
    · exact w
    · rw [walk]
      rw [List.length_cons] at enough
      split
      · exact ih todo seen (w.skip ‹_›) (by omega)
      · rename_i hn
        have visited := w.visit hn
        have room : (n :: seen).length ≤ 64 := by simpa using visited.nodup.length_le_card
        have links := linksOf_length_le table n
        refine ih _ _ visited ?_
        rw [List.length_append]
        rw [List.length_cons] at room ⊢
        omega

/-- Settles O10: at the walk's end what was seen holds the first mark and is closed under links. -/
theorem walkFindsTheReachableMarks : Obligations.WalkFindsTheReachableMarks := by
  intro table first n
  have start : Walking table first [first] [] :=
    ⟨List.nodup_nil, fun _ h => absurd h List.not_mem_nil,
      fun k hk => List.mem_singleton.mp hk ▸ .start, fun _ h => absurd h List.not_mem_nil, .inr List.mem_cons_self⟩
  have w : Walking table first [] (reachable table first) := walk_ends table first 192 _ _ start (by simp)
  have link {k i : MarkNo} (hk : k ∈ reachable table first) (hi : i ∈ linksOf table k) :
      i ∈ reachable table first := (w.links k hk i hi).resolve_right List.not_mem_nil
  refine ⟨⟨w.seen_reached n, fun h => ?_⟩, w.nodup⟩
  induction h with
  | start => exact w.start.resolve_right List.not_mem_nil
  | next k i m _ hm hi ih => exact link ih (mem_linksOf.mpr ⟨m, hm, .inl hi⟩)
  | loopTo k i m _ hm hi ih => exact link ih (mem_linksOf.mpr ⟨m, hm, .inr hi⟩)

/-! ## The loop counter -/

theorem loopStep_free (n : MarkNo) (repeats count : Nat) : loopStep n repeats { owner := none, count := count } =
    if repeats = 0 then ({ owner := none, count := 0 }, false)
    else ({ owner := some n, count := repeats - 1 }, true) := by
  simp [loopStep]

theorem loopStep_owned (n : MarkNo) (repeats count : Nat) : loopStep n repeats { owner := some n, count := count } =
    if count = 0 then ({ owner := none, count := 0 }, false)
    else ({ owner := some n, count := count - 1 }, true) := by
  simp [loopStep]

theorem loopStep_foreign {n m : MarkNo} (repeats : Nat) {k : LoopCounter} (hm : m ≠ n) (hk : k.owner = some m) :
    loopStep n repeats k = (k, false) := by
  simp [loopStep, hk, hm]

/-- After some arrivals, at most as many as the repeat count, the counter belongs to the mark with the passes that are
left. -/
theorem loop_after_arrivals (n : MarkNo) (repeats k : Nat) (hk : k ≤ repeats) (hpos : 0 < k) :
    (fun c => (loopStep n repeats c).1)^[k] { owner := none, count := 0 } =
      { owner := some n, count := repeats - k } := by
  induction k, hpos using Nat.le_induction with
  | base =>
    have : repeats ≠ 0 := by omega
    simp [loopStep_free, this]
  | succ k _ ih =>
    have left : repeats - k ≠ 0 := by omega
    rw [Function.iterate_succ_apply', ih (by omega)]
    simp [loopStep_owned, left, Nat.sub_sub]

/-- Settles O11: each arrival before the last takes one pass, the last frees the counter. -/
theorem loopIsTakenRepeatTimes : Obligations.LoopIsTakenRepeatTimes := by
  intro n repeats k arrive before
  have counter (hk : k ≤ repeats) : loopStep n repeats before = if repeats - k = 0
      then ({ owner := none, count := 0 }, false)
      else ({ owner := some n, count := repeats - k - 1 }, true) := by
    rcases Nat.eq_zero_or_pos k with rfl | hpos
    · exact loopStep_free n repeats 0
    · rw [show before = _ from loop_after_arrivals n repeats k hk hpos, loopStep_owned]
  refine ⟨fun hk => ?_, fun hk => ?_, fun m c hm hc => loopStep_foreign repeats hm hc⟩
  · have left : repeats - k ≠ 0 := by omega
    have taken := counter hk.le
    rw [if_neg left] at taken
    refine ⟨by rw [taken], (congrArg Prod.fst taken).trans ?_⟩
    rw [Nat.sub_right_comm]
  · have freed := counter hk.le
    rw [if_pos (by omega)] at freed
    exact ⟨by rw [freed], congrArg (·.1.owner) freed⟩

end Sys2Proof.Machine
end

section
/-! ## Loading and configuration -/

namespace Sys2Proof.Machine

/-- An EMPTY slot is not clamped. -/
theorem clampSlot_empty {c : Configuration} {slot : MarkSlot} (h : slot.record = none) : clampSlot c slot = slot := by
  simp [clampSlot, h]

/-- A VALID slot is clamped, and its unsaved marker set where the clamp changes the position (R2). -/
theorem clampSlot_valid {c : Configuration} {slot : MarkSlot} {m : Mark} (h : slot.record = some m) :
    clampSlot c slot =
      { record := some { m with position := clampInt c.limitLow c.limitHigh m.position },
        unsaved := slot.unsaved || m.position != clampInt c.limitLow c.limitHigh m.position } := by
  obtain ⟨record, unsaved⟩ := slot
  cases h
  by_cases same : clampInt c.limitLow c.limitHigh m.position = m.position
  · simp [clampSlot, same]
  · have moved : m.position ≠ clampInt c.limitLow c.limitHigh m.position := Ne.symm same
    simp [clampSlot, same, moved]

/-- Entering WAKING is one change of state: the settle timer starts, nothing is captured, the enable output is off, live
position and history are gone (R25, R129, R135, R136). -/
theorem enterWaking_eq (s : State) : enterWaking s = changeState .waking
    { s with control.settle := some 0, drive.captured := false, drive.missed := 0, drive.following := 0,
             drive.enable := false, blend.live := none, blend.history := none, blend.limited := false } :=
  enterState_not_working rfl _

/-- Settles O8: the write's end is an entry into WAKING from the node with the record in force. -/
theorem configWriteEndPutsTheRecordInForce : Obligations.ConfigWriteEndPutsTheRecordInForce := by
  intro w s running writing c
  refine ⟨configWriteEnd s, ?_, ?_⟩
  · rw [exec, execConfigWriteEnd, whenRunning_running running]
  rw [configWriteEnd, writing]
  dsimp only
  rw [enterWaking_eq]
  simp only [changeState_startup, changeState_nonvolatile, changeState_control, changeState_drive_captured,
    changeState_drive_missed, changeState_drive_following, changeState_drive_enable, changeState_blend_timer,
    changeState_pace_veff, changeState_blend_aStep, changeState_blend_weightStep, changeState_live_velocity,
    changeState_live_deflection, changeState_remainder, changeState_live_recentre, changeState_live_demand,
    changeState_live_dial, changeState_peers, changeState_marks]
  iterate 22 refine ⟨by trivial, ?_⟩
  intro i
  change (mapSlots (clampSlot c) s.marks.table)[i] = _
  rw [mapSlots_get]
  split
  · exact clampSlot_empty ‹_›
  · exact clampSlot_valid ‹_›

/-- What a slot loads as (R2, R3, R165). -/
theorem loadedTable_get (nv : Nonvolatile) (i : MarkNo) : (loadedTable nv)[i] =
    if nv.slots[i].inProgress = true then { record := none, unsaved := true }
    else match nv.slots[i].record, nv.config with
      | none, _ => { record := none, unsaved := false }
      | some m, none => { record := some m, unsaved := false }
      | some m, some c =>
        let x := max c.limitLow (min m.position c.limitHigh)
        { record := some { m with position := x }, unsaved := m.position != x } := by
  rcases hc : nv.config with _ | c
  · simp only [loadedTable, hc, mapSlots_get, loadSlot]
    split
    · rfl
    · cases nv.slots[i].record <;> rfl
  · simp only [loadedTable, hc, mapSlots_get, loadSlot]
    split
    · rfl
    · rcases nv.slots[i].record with _ | m
      · rfl
      · exact (clampSlot_valid rfl).trans (by rw [Bool.false_or]; rfl)

/-- The first state at address 0 (R23). -/
theorem firstState_clash {b : State} (address : b.startup.address = 0) : firstState b =
    { b with control.axisState := .fault, drive.faultCause := some .addressClash, drive.permanent := true,
             blend.timer := (b.startup.config.map fun _ => 0).or b.blend.timer,
             pace.veff := (b.startup.config.map (·.velMax)).or b.pace.veff } := by
  rw [firstState, if_pos address]
  rcases hc : b.startup.config with _ | c <;> simp [hc, startUpdates]

/-- The first state under the setup strap, or without a configuration (R23, R179). -/
theorem firstState_setup {b : State} (address : b.startup.address ≠ 0)
    (setup : b.startup.setupStrap = true ∨ b.startup.config = none) : firstState b =
      queueState { b with startup := { b.startup with
        staged := (b.startup.config.map stagedOf).getD b.startup.staged } } := by
  rw [firstState, if_neg address]
  rcases hc : b.startup.config with _ | c
  · rfl
  · have strap : b.startup.setupStrap = true := setup.resolve_right (by simp [hc])
    simp [hc, strap]

/-- The first state of any other node with a configuration (R23, R73, R112). -/
theorem firstState_waking {c : Configuration} {b : State} (address : b.startup.address ≠ 0)
    (config : b.startup.config = some c) (strap : b.startup.setupStrap = false) :
    firstState b = enterWaking (startUpdates c b) := by
  rw [firstState, if_neg address, config]
  simp [strap]

/-- Settles O5: the load's end is the first state of the loaded node, each of the three ways written out. -/
theorem loadingEndChoosesTheFirstState : Obligations.LoadingEndChoosesTheFirstState := by
  intro n s loading fresh
  have figures (c : Configuration) (hc : s.nonvolatile.config = some c) :
      (s.nonvolatile.config.map aStepOf).getD 1 = max 1 (c.accMax * periodMs c.period ^ 2 / 1000000) ∧
      (s.nonvolatile.config.map weightStepOf).getD 1 =
        (4096 * periodMs c.period + c.crossfade - 1) / c.crossfade := by
    rw [hc]; exact ⟨rfl, rfl⟩
  have live : rebuiltLive s.nonvolatile.config =
      { demand := (s.nonvolatile.config.bind (·.demandChannel)).map fresh,
        dial := (s.nonvolatile.config.bind (·.dialChannel)).map fresh,
        velocity := 0, deflection := 0, remainder := 0, recentre := true, grabTimer := none } := by
    cases s.nonvolatile.config <;> rfl
  refine ⟨firstState (loadStore s), ?_, ?_⟩
  · rw [exec, execLoadingEnd, loadingEnd, loading]
  by_cases address : s.startup.address = 0
  · rw [firstState_clash (b := loadStore s) address, if_pos address]
    iterate 10 refine ⟨by trivial, ?_⟩
    refine ⟨live, figures, loadedTable_get _, rfl, rfl, rfl, rfl, rfl, ?_, ?_⟩
    · exact Option.or_none
    · exact Option.or_none
  by_cases setup : s.startup.setupStrap = true ∨ s.nonvolatile.config = none
  · rw [firstState_setup (b := loadStore s) address setup, queueState_open rfl, if_neg address, if_pos setup]
    iterate 10 refine ⟨by trivial, ?_⟩
    refine ⟨live, figures, loadedTable_get _, rfl, rfl, rfl, rfl, rfl, rfl, ⟨_, rfl, rfl, rfl⟩, fun c hc => ?_,
      fun hc f => ?_⟩
    · change (s.nonvolatile.config.map stagedOf).getD _ = _
      rw [hc]; rfl
    · change ((s.nonvolatile.config.map stagedOf).getD StagedConfiguration.unset)[f] = none
      rw [hc]
      simp [StagedConfiguration.unset]
  · rw [not_or, Bool.not_eq_true] at setup
    obtain ⟨c, hc⟩ := Option.ne_none_iff_exists'.mp setup.2
    rw [firstState_waking (b := loadStore s) address hc setup.1, enterWaking_eq,
      changeState_no_run (by exact nofun) rfl, queueState_open rfl, if_neg address,
      if_neg (by rw [setup.1, hc]; nofun)]
    iterate 10 refine ⟨by trivial, ?_⟩
    refine ⟨live, figures, loadedTable_get _, rfl, rfl, rfl, ?_, rfl, rfl, rfl, _, rfl, rfl⟩
    rw [hc]; rfl

end Sys2Proof.Machine
end

section
/-! ## Changes among the states with a run -/

namespace Sys2Proof.Machine

/-- A PACE frame handed to its slot (R88). -/
theorem queuePace_open {s : State} (h : s.drive.permanent = false) : queuePace s =
    { s with bus := { s.bus with paceSlot := some (paceFrameOf (needNow s) s),
                                 inHand := noteReplaced .pace s.bus.inHand },
             pace := { s.pace with ownNeed := needNow s, lastNeedSent := some (needNow s), interval := some 0 } } := by
  simp [queuePace, sendPace, h]

theorem changedAmongRuns_queuePace {s t : State} (h : ChangedAmongRuns s t) (open_ : t.drive.permanent = false) :
    ChangedAmongRuns s (queuePace t) := by
  rw [queuePace_open open_, h]
  rfl

theorem changedAmongRuns_queueState {s t : State} (h : ChangedAmongRuns s t) (open_ : t.drive.permanent = false) :
    ChangedAmongRuns s (queueState t) := by
  rw [queueState_open open_, h]
  rfl

/-- A change of state is told by no frame, by both frames, or by a STATE frame alone (R89, R174). -/
theorem announce_cases (old : AxisState) (s : State) : announce old s = s ∨
    announce old s = queuePace (queueState s) ∨ announce old s = queueState s := by
  unfold announce
  dsimp only
  split
  · exact .inl rfl
  · split
    · exact .inr (.inl rfl)
    · exact .inr (.inr rfl)

/-- A change into a state that sends PACE frames: the mix is dropped where that state has no run, and else only run
control, the outbox and the grab timer change (R89, R115, R174). -/
theorem changeState_changes {new : AxisState} {s : State} (open_ : s.drive.permanent = false)
    (sends : sendsPace new = true) :
    ChangedAmongRuns { s with blend := if hasRun new then s.blend else dropMix s.blend } (changeState new s) := by
  have notFault : new ≠ .fault := by rintro rfl; exact absurd sends nofun
  have keeps : clearsRemainder new = false := by revert sends; cases new <;> simp [sendsPace, clearsRemainder]
  have put : ChangedAmongRuns { s with blend := if hasRun new then s.blend else dropMix s.blend }
      (refreshGrab (putState new s)) := by
    simp only [ChangedAmongRuns, refreshGrab, putState, sends, keeps, if_true, if_neg notFault, Bool.false_eq_true,
      if_false]
  rw [changeState]
  rcases announce_cases s.control.axisState (refreshGrab (putState new s)) with e | e | e <;> rw [e]
  · exact put
  · exact changedAmongRuns_queuePace (changedAmongRuns_queueState put open_) (by simpa using open_)
  · exact changedAmongRuns_queueState put open_

/-- A change into the state the node is in already is told by no frame (R174). -/
theorem changeState_same_bus {new : AxisState} {s : State} (same : s.control.axisState = new) :
    (changeState new s).bus = s.bus := by
  subst same
  simp [changeState, announce]

/-- Into a state with a run, as the statements write run control there (R21). -/
theorem keepRecords_running (c : RunControl) : keepRecords .running c = inRun .running none c := rfl

/-- RELEASING holds no stack (R50). -/
theorem keepRecords_releasing {c : RunControl} (h : c.stack = []) :
    keepRecords .releasing c = inRun .releasing none c := by
  simp [keepRecords, inRun, hasRun, working, keepsStack, h]

/-! ## Arrivals -/

/-- The node with a run in place of its own. -/
def withRun (q : RunContext) (s : State) : State := { s with control := { s.control with run := some q } }

theorem withRun_self {q : RunContext} {s : State} (h : s.control.run = some q) : withRun q s = s := by
  unfold withRun; rw [← h]

theorem onSegment_withRun {q : RunContext} {s : State} (h : s.control.run = some q) (f : Segment → Segment) :
    onSegment f s = withRun { q with segment := f q.segment } s := by
  simp [onSegment, withRun, h]

theorem freezePath_withRun {q : RunContext} {s : State} (h : s.control.run = some q) :
    freezePath s = withRun { q with frozen := true } s := by
  simp [freezePath, withRun, h]

/-- What an arrival's third and fourth step come to: a segment by the loop-to link while passes are left, else by the
next link, else the chain's end (R15, R16). -/
def FromLoop (s : State) (m : Mark) (q : RunContext) (goesOn ends : RunContext → Prop) : Prop :=
  let loop := loopStep q.segment.destination m.repeats q.loop
  if m.loopTo.isSome = true ∧ loop.2 = true then
    ∃ k, m.loopTo = some k ∧ goesOn { q with segment := markSegment m.position k (markAt s k), loop := loop.1 }
  else
    let q' : RunContext := { q with loop := if m.loopTo.isSome then loop.1 else q.loop }
    match m.next with
    | some k => goesOn { q' with segment := markSegment m.position k (markAt s k) }
    | none => ends q'

/-- The loop and the next link, in terms of what a new segment and the chain's end come to. -/
theorem stepLoop_fromLoop {goesOn ends : RunContext → State → Prop} {s : State} {m : Mark} {q : RunContext}
    (run : s.control.run = some q)
    (begins : ∀ k g, goesOn { q with loop := k, segment := g } (beginSegment g (withRun { q with loop := k } s)))
    (ended : ∀ k, ends { q with loop := k } (stepEnd m (withRun { q with loop := k } s))) :
    FromLoop s m q (goesOn · (stepLoop q.segment.destination m s)) (ends · (stepLoop q.segment.destination m s)) := by
  have next (k : LoopCounter) : match m.next with
      | some i => goesOn { q with loop := k, segment := markSegment m.position i (markAt s i) }
          (stepNext m (withRun { q with loop := k } s))
      | none => ends { q with loop := k } (stepNext m (withRun { q with loop := k } s)) := by
    unfold stepNext
    rcases m.next with _ | i
    · exact ended k
    · exact begins k _
  unfold FromLoop
  rcases hl : m.loopTo with _ | target
  · have step : stepLoop q.segment.destination m s = stepNext m (withRun { q with loop := q.loop } s) := by
      rw [show withRun { q with loop := q.loop } s = s from withRun_self run, stepLoop, hl]
    rw [step, if_neg (by simp)]
    exact next q.loop
  · have step : stepLoop q.segment.destination m s =
        if (loopStep q.segment.destination m.repeats q.loop).2 then
          beginSegment (markSegment m.position target (markAt s target))
            (withRun { q with loop := (loopStep q.segment.destination m.repeats q.loop).1 } s)
        else stepNext m (withRun { q with loop := (loopStep q.segment.destination m.repeats q.loop).1 } s) := by
      rw [stepLoop, hl, run]; rfl
    rw [step]
    by_cases taken : (loopStep q.segment.destination m.repeats q.loop).2 = true
    · rw [if_pos taken, if_pos ⟨rfl, taken⟩]
      exact ⟨target, rfl, begins _ _⟩
    · rw [if_neg taken, if_neg (taken ·.2)]
      exact next _

end Sys2Proof.Machine
end

section
/-! ## Arrivals in a state that moves along the path -/

namespace Sys2Proof.Machine

/-- Run control goes on with a run in place of its own, and nothing else of it changes. -/
def GoesOn (c : RunControl) (q : RunContext) (t : State) : Prop := t.control = { c with run := some q }

/-- Run control stands WAITING at a wait point of the run. -/
def Waits (c : RunControl) (w : WaitPoint) (q : RunContext) (t : State) : Prop :=
  t.control = inRun .waiting none { c with run := some { q with segment := { q.segment with wait := w } } }

/-- The end of a chain: frozen in RELEASING, WAITING over a stack, and else as the end field says, LATCH at a setpoint
(R17, R19). -/
def Ends (c : RunControl) (x : Int) (m : Mark) (q : RunContext) (t : State) : Prop :=
  let frozen : RunControl := { c with run := some { q with frozen := true } }
  if c.axisState = .releasing then t.control = frozen
  else if c.stack ≠ [] then Waits c .chainEnd q t
  else match m.endAction with
    | .release => t.control = inRun .releasing none frozen ∧ t.blend.weightTarget = 0
    | .latch => t.control.axisState = .live ∧ t.control.run = none ∧ t.blend.weight = 0 ∧
        t.blend.trim = 0 ∧ t.live.recentre = true ∧ t.blend.live = some x

/-- Outside WAITING a new segment changes the run alone. -/
theorem beginSegment_goesOn {q : RunContext} {s : State} (run : s.control.run = some q)
    (moving : s.control.axisState ≠ .waiting) (g : Segment) :
    GoesOn s.control { q with segment := g } (beginSegment g s) := by
  rw [beginSegment, onSegment_withRun run, if_neg (by exact moving), GoesOn, queuePace_control]
  rfl

theorem waitAt_eq {q : RunContext} {s : State} (run : s.control.run = some q) (stop : s.stopInput = true)
    (w : WaitPoint) : waitAt w s =
      changeState .waiting (withRun { q with segment := { q.segment with wait := w } } s) := by
  rw [waitAt, onSegment_withRun run, enterState_active _ _ (by exact stop)]

theorem waitAt_waits {q : RunContext} {s : State} (run : s.control.run = some q) (stop : s.stopInput = true)
    (w : WaitPoint) : Waits s.control w q (waitAt w s) := by
  rw [waitAt_eq run stop, Waits, changeState_control]
  rfl

theorem releaseEnd_eq {q : RunContext} {s : State} (run : s.control.run = some q) (stop : s.stopInput = true) :
    releaseEnd s = changeState .releasing (withRun { q with frozen := true } { s with
      blend := { s.blend with weightTarget := 0 },
      live := { s.live with remainder := if q.authority = .follow then 0 else s.live.remainder } }) := by
  rw [releaseEnd, enterState_active _ _ (by exact stop), freezePath_withRun (by exact run), run]
  simp

theorem latchEnd_eq {s : State} (stop : s.stopInput = true) : latchEnd s =
    changeState .live (setRecentre { s with blend := { s.blend with live := some (presentSetpoint s.blend) } }) := by
  rw [latchEnd, enterLiveAt, enterState_active _ _ (by exact stop)]

/-- Over a stack the end of a chain is a wait (R17). -/
theorem stepEnd_stacked {s : State} (m : Mark) (steady : s.control.axisState ≠ .releasing)
    (stacked : s.control.stack ≠ []) : stepEnd m s = waitAt .chainEnd s := by
  rw [stepEnd, if_neg steady, if_pos stacked]

/-- Without a stack the end field says how a chain ends (R17). -/
theorem stepEnd_release {s : State} {m : Mark} (steady : s.control.axisState ≠ .releasing)
    (last : s.control.stack = []) (field : m.endAction = .release) : stepEnd m s = releaseEnd s := by
  rw [stepEnd, if_neg steady, if_neg (not_not.mpr last), field]

theorem stepEnd_latch {s : State} {m : Mark} (steady : s.control.axisState ≠ .releasing)
    (last : s.control.stack = []) (field : m.endAction = .latch) : stepEnd m s = latchEnd s := by
  rw [stepEnd, if_neg steady, if_neg (not_not.mpr last), field]

theorem stepEnd_ends {q : RunContext} {s : State} (m : Mark) (run : s.control.run = some q)
    (stop : s.stopInput = true) : Ends s.control (presentSetpoint s.blend) m q (stepEnd m s) := by
  unfold Ends
  dsimp only
  by_cases releasing : s.control.axisState = .releasing
  · rw [if_pos releasing, stepEnd, if_pos releasing, freezePath_withRun run]
    rfl
  rw [if_neg releasing]
  by_cases stacked : s.control.stack ≠ []
  · rw [if_pos stacked, stepEnd_stacked m releasing stacked]
    exact waitAt_waits run stop .chainEnd
  have last : s.control.stack = [] := not_not.mp stacked
  rw [if_neg stacked]
  rcases field : m.endAction with _ | _
  · dsimp only
    rw [stepEnd_release releasing last field, releaseEnd_eq run stop, changeState_control, changeState_weightTarget]
    exact ⟨keepRecords_releasing last, rfl⟩
  · dsimp only
    rw [stepEnd_latch releasing last field, latchEnd_eq stop, changeState_control, changeState_weight,
      changeState_trim, changeState_live_recentre, changeState_blend_live]
    exact ⟨rfl, rfl, rfl, rfl, rfl, rfl⟩

/-- The loop, the next link and the chain's end of an arrival outside WAITING. -/
theorem stepLoop_arrives {q : RunContext} {s : State} (m : Mark) (run : s.control.run = some q)
    (stop : s.stopInput = true) (moving : s.control.axisState ≠ .waiting) :
    FromLoop s m q (GoesOn s.control · (stepLoop q.segment.destination m s))
      (Ends s.control (presentSetpoint s.blend) m · (stepLoop q.segment.destination m s)) :=
  stepLoop_fromLoop (goesOn := GoesOn s.control) (ends := Ends s.control (presentSetpoint s.blend) m) run
    (fun k g => beginSegment_goesOn (s := withRun { q with loop := k } s) rfl moving g)
    (fun k => stepEnd_ends (s := withRun { q with loop := k } s) m rfl stop)

/-- The marks alone say which segments the links build. -/
theorem fromLoop_of_marks {s t : State} (marks : t.marks = s.marks) {m : Mark} {q : RunContext}
    {goesOn ends : RunContext → Prop} : FromLoop t m q goesOn ends = FromLoop s m q goesOn ends := by
  have same (k : MarkNo) : markAt t k = markAt s k := by rw [markAt, markAt, marks]
  simp only [FromLoop, same]

theorem markAt_eq {s : State} {n : MarkNo} {m : Mark} (h : s.marks.table[n].record = some m) : markAt s n = m := by
  rw [markAt, h]; rfl

/-- The arrival of a segment that is no RETURN-TRANSITION (R13). -/
theorem takeArrival_at_mark {r : RunContext} {s : State} {m : Mark} (run : s.control.run = some r)
    (kind : r.segment.kind ≠ .returnTransition) (hm : s.marks.table[r.segment.destination].record = some m) :
    takeArrival s = stepDwell r.segment.destination m r.segment.dwellServed s := by
  rw [takeArrival, run]
  dsimp only
  rw [markAt_eq hm]
  split
  · exact absurd ‹_› kind
  · rfl

/-- Past the dwell the run has it served (R13). -/
theorem stepDwell_served {r : RunContext} {s : State} {m : Mark} (run : s.control.run = some r)
    (served : ¬ (r.segment.dwellServed = false ∧ 0 < m.dwell)) (n : MarkNo) :
    stepDwell n m r.segment.dwellServed s =
      stepStop n m (withRun { r with segment := { r.segment with dwellServed := true } } s) := by
  rcases h : r.segment.dwellServed with _ | _
  · rw [stepDwell, if_neg nofun, if_neg (fun hd => served ⟨h, hd⟩), onSegment_withRun run]
  · have same : { r with segment := { r.segment with dwellServed := true } } = r := by rw [← h]
    rw [same, withRun_self run]
    rfl

/-- The arrival at the end of a RETURN-TRANSITION: the held-aside segment is back (R20). -/
theorem takeArrival_at_return {r : RunContext} {g : Segment} {s : State} (run : s.control.run = some r)
    (kind : r.segment.kind = .returnTransition) (held : r.heldAside = some g) :
    takeArrival s =
      let s' := queuePace (withRun { r with segment := g, heldAside := none } s)
      if g.tau ≠ segmentEnd g then s'
      else match g.wait with
        | .nowhere => s'
        | .stop =>
          if s'.control.axisState = .releasing then
            stepLoop g.destination (markAt s' g.destination) (onSegment (fun x => { x with wait := .nowhere }) s')
          else waitAt .stop s'
        | .chainEnd => stepEnd (markAt s' g.destination) s' := by
  rw [takeArrival, run]
  dsimp only
  rw [kind, handBack, run]
  dsimp only
  rw [held]
  rfl

/-- The dwell: a segment that stands at the mark, with the dwell served (R13). -/
theorem stepDwell_dwells {r : RunContext} {s : State} {m : Mark} (run : s.control.run = some r)
    (moving : s.control.axisState ≠ .waiting) (dwell : r.segment.dwellServed = false ∧ 0 < m.dwell) (n : MarkNo) :
    GoesOn s.control { r with segment := dwellSegment n m } (stepDwell n m r.segment.dwellServed s) := by
  rw [stepDwell, dwell.1, if_neg nofun, if_pos dwell.2, onSegment_withRun run]
  exact beginSegment_goesOn
    (s := withRun { r with segment := { r.segment with dwellServed := true } } s) rfl moving _

theorem stepStop_stands {s : State} {m : Mark} (h : m.stop = true ∧ s.control.axisState ≠ .releasing) (n : MarkNo) :
    stepStop n m s = waitAt .stop s := by simp [stepStop, h]

theorem stepStop_passed {s : State} {m : Mark} (h : ¬ (m.stop = true ∧ s.control.axisState ≠ .releasing))
    (n : MarkNo) : stepStop n m s = stepLoop n m s := by
  rw [stepStop, if_neg (by simpa using h)]

/-- An arrival at a mark: the dwell, the stop, and what the loop's lemma says (R13 to R19). -/
theorem takeArrival_steps {r : RunContext} {s : State} {m : Mark} (run : s.control.run = some r)
    (stop : s.stopInput = true) (moving : s.control.axisState ≠ .waiting)
    (kind : r.segment.kind ≠ .returnTransition)
    (hm : s.marks.table[r.segment.destination].record = some m) :
    let q : RunContext := { r with segment := { r.segment with dwellServed := true } }
    if r.segment.dwellServed = false ∧ 0 < m.dwell then
      GoesOn s.control { r with segment := dwellSegment r.segment.destination m } (takeArrival s)
    else if m.stop = true ∧ s.control.axisState ≠ .releasing then Waits s.control .stop q (takeArrival s)
    else FromLoop s m q (GoesOn s.control · (takeArrival s))
      (Ends s.control (presentSetpoint s.blend) m · (takeArrival s)) := by
  intro q
  rw [takeArrival_at_mark run kind hm]
  by_cases dwell : r.segment.dwellServed = false ∧ 0 < m.dwell
  · rw [if_pos dwell]
    exact stepDwell_dwells run moving dwell _
  rw [if_neg dwell, stepDwell_served run dwell]
  change if m.stop = true ∧ (withRun q s).control.axisState ≠ .releasing then _ else _
  split
  next stands =>
    rw [stepStop_stands stands]
    exact waitAt_waits (s := withRun q s) rfl stop .stop
  next passed =>
    rw [stepStop_passed passed]
    exact stepLoop_arrives (s := withRun q s) m rfl stop moving

/-- Where a held-aside segment that is back at its end goes on (R20). -/
theorem takeArrival_hands_back {r : RunContext} {g : Segment} {s : State} {m : Mark} (run : s.control.run = some r)
    (stop : s.stopInput = true) (moving : s.control.axisState ≠ .waiting) (kind : r.segment.kind = .returnTransition)
    (held : r.heldAside = some g) (hm : s.marks.table[g.destination].record = some m) :
    let q : RunContext := { r with segment := g, heldAside := none }
    (g.tau ≠ segmentEnd g → GoesOn s.control q (takeArrival s)) ∧
    (g.tau = segmentEnd g → g.wait = .stop →
      if s.control.axisState = .releasing then
        FromLoop s m { q with segment := { g with wait := .nowhere } } (GoesOn s.control · (takeArrival s))
          (Ends s.control (presentSetpoint s.blend) m · (takeArrival s))
      else Waits s.control .stop q (takeArrival s)) ∧
    (g.tau = segmentEnd g → g.wait = .chainEnd →
      Ends s.control (presentSetpoint s.blend) m q (takeArrival s)) := by
  intro q
  have arrival := takeArrival_at_return run kind held
  have control : (queuePace (withRun q s)).control = (withRun q s).control := queuePace_control _
  have setpoint : presentSetpoint (queuePace (withRun q s)).blend = presentSetpoint s.blend := by
    rw [queuePace_blend]; rfl
  have marks : (queuePace (withRun q s)).marks = s.marks := queuePace_marks _
  have active : (queuePace (withRun q s)).stopInput = true := (queuePace_stopInput _).trans stop
  generalize queuePace (withRun q s) = back at arrival control setpoint marks active
  have back_run : back.control.run = some q := by rw [control]; rfl
  have mark : markAt back g.destination = m := markAt_eq (by rw [marks]; exact hm)
  dsimp only at arrival
  rw [mark] at arrival
  rw [arrival]
  refine ⟨fun inside => ?_, fun atEnd stopped => ?_, fun atEnd ended => ?_⟩
  · rw [if_pos inside]
    exact control
  · rw [if_neg (not_not.mpr atEnd), stopped]
    dsimp only
    change if (withRun q s).control.axisState = .releasing then _ else _
    rw [← control]
    split
    next releasing =>
      have arrives := stepLoop_arrives (s := withRun { q with segment := { g with wait := .nowhere } } back) m rfl
        active (fun h => moving ((congrArg RunControl.axisState control).symm.trans h))
      rw [fromLoop_of_marks (t := withRun _ back) marks] at arrives
      rw [onSegment_withRun back_run]
      change FromLoop s m _ (GoesOn { back.control with run := _ } · _)
        (Ends { back.control with run := _ } (presentSetpoint back.blend) m · _) at arrives
      rw [control, setpoint] at arrives
      exact arrives
    next passed =>
      have waits := waitAt_waits back_run active .stop
      rw [control] at waits
      exact waits
  · rw [if_neg (not_not.mpr atEnd), ended]
    have ends := stepEnd_ends m back_run active
    rw [control, setpoint] at ends
    exact ends

/-- Settles O12: each step of the arrival is one of the steps' lemmas, on the run as the steps before have left it. -/
theorem arrivalGoesThroughTheSteps : Obligations.ArrivalGoesThroughTheSteps := by
  intro r s run stop moving st t goesOn waits ends fromTheLoop
  have notWaiting : s.control.axisState ≠ .waiting := by rcases moving with h | h | h <;> rw [h] <;> nofun
  refine ⟨?_, ?_⟩
  · intro m kind hm
    exact takeArrival_steps run stop notWaiting kind hm
  · intro g m kind held hm
    exact takeArrival_hands_back run stop notWaiting kind held hm

end Sys2Proof.Machine
end

section
/-! ## ARM: the check of the chain and the arm record (R6, R38 to R40) -/

namespace Sys2Proof.Machine

/-- A CUE frame the node takes: its verb, on the node that has heard the sender (R38, R173). -/
theorem cueFrame_accepts {sender : Addr} {s : State} (h : Accepts sender s) (verb : State → State) :
    cueFrame sender verb s = verb (heardFrom sender s) := receive_accepts h _ _

theorem checkChain_noMark {table : Vector MarkSlot 64} {first : MarkNo} (h : table[first].record = none) :
    checkChain table first = .noMark := by rw [checkChain, h]

theorem checkChain_broken {table : Vector MarkSlot 64} {first : MarkNo} {m : Mark}
    (h : table[first].record = some m) (broken : ∃ n, Reaches table first n ∧ table[n].record = none) :
    checkChain table first = .brokenChain := by
  obtain ⟨n, reached, empty⟩ := broken
  have found : n ∈ reachable table first := (walkFindsTheReachableMarks table first n).1.mpr reached
  have isBroken : ((reachable table first).any fun n => table[n].record.isNone) = true :=
    List.any_eq_true.mpr ⟨n, found, by rw [empty]; rfl⟩
  rw [checkChain, h]
  dsimp only
  rw [if_pos isBroken]

theorem checkChain_whole {table : Vector MarkSlot 64} {first : MarkNo} {m : Mark}
    (h : table[first].record = some m) (whole : ¬ ∃ n, Reaches table first n ∧ table[n].record = none) :
    checkChain table first = .accepted (reachable table first) m.authority m.share := by
  have isWhole : ¬ ((reachable table first).any fun n => table[n].record.isNone) = true := by
    rw [List.any_eq_true]
    rintro ⟨n, found, empty⟩
    exact whole ⟨n, (walkFindsTheReachableMarks table first n).1.mp found, Option.isNone_iff_eq_none.mp empty⟩
  rw [checkChain, h]
  dsimp only
  rw [if_neg isWhole]

/-- A PACE frame in its slot (R88). -/
theorem queuePace_paceSlot {s : State} (open_ : s.drive.permanent = false) :
    (queuePace s).bus.paceSlot = some (paceFrameOf (needNow s) s) := by rw [queuePace_open open_]

/-- The STATE frame that tells of a change of state (R174). -/
theorem changeState_stateSlot {new : AxisState} {s : State} (open_ : s.drive.permanent = false)
    (changes : s.control.axisState ≠ new) :
    (changeState new s).bus.stateSlot = some (stateFrameOf (refreshGrab (putState new s))) := by
  have put : (refreshGrab (putState new s)).control.axisState = new := rfl
  have slot : (queueState (refreshGrab (putState new s))).bus.stateSlot =
      some (stateFrameOf (refreshGrab (putState new s))) := by rw [queueState_open (by simpa using open_)]
  rw [changeState, announce, if_neg (by rw [put]; exact changes.symm)]
  split
  · rw [queuePace_bus_stateSlot, slot]
  · exact slot

/-- A node that takes a new arm record into ARMED, in LIVE and ARMED (R39, R89, R174). -/
theorem arms_changes {a : ArmRecord} {s : State} (open_ : s.drive.permanent = false) :
    let t := queuePace (changeState .armed (withArm a s))
    ChangedAmongRuns { s with blend := { s.blend with weight := 0, weightTarget := 0, trim := 0 } } t ∧
    t.control = { axisState := .armed, run := none, arm := some a, stack := [], cueResult := .armed,
                  haltCause := none, holdCause := none, settle := none } ∧
    (∃ p, t.bus.paceSlot = some p ∧ p.armed = true ∧ p.cue = a.cue ∧ p.destination = a.first) ∧
    (s.control.axisState = .live → ∃ f, t.bus.stateSlot = some f ∧ f.axisState = .armed ∧ f.cue = a.cue) := by
  have still : (changeState .armed (withArm a s)).drive.permanent = false := by
    rw [changeState_drive_permanent]; exact open_
  have changed := changeState_changes (new := .armed) (s := withArm a s) open_ rfl
  have control := changeState_control .armed (withArm a s)
  refine ⟨changedAmongRuns_queuePace changed still, by rw [queuePace_control, control]; rfl,
    ⟨_, queuePace_paceSlot still, ?_, ?_, ?_⟩,
    fun live => ⟨stateFrameOf (refreshGrab (putState .armed (withArm a s))), ?_, rfl, rfl⟩⟩
  · rw [paceFrameOf, control]; rfl
  · rw [paceFrameOf, control]; rfl
  · rw [paceFrameOf, control]; rfl
  · rw [queuePace_bus_stateSlot]
    exact changeState_stateSlot open_ (show s.control.axisState ≠ .armed by rw [live]; nofun)

/-- The arm record of an ARM whose chain is whole (R39). -/
def chainArm (cue : CueNo) (first : MarkNo) (m : Mark) (s : State) : ArmRecord :=
  { cue, first, chainSet := reachable s.marks.table first, authority := m.authority, share := m.share, age := 0 }

/-- An accepted ARM goes into ARMED from LIVE and ARMED, and leaves a run alone (R39, R40). -/
theorem takeArm_accepted {cue : CueNo} {first : MarkNo} {m : Mark} {s : State} (numbered : cue ≠ 0)
    (steers : working s.control.axisState = true) (active : s.stopInput = true)
    (record : s.marks.table[first].record = some m)
    (whole : ¬ ∃ n, Reaches s.marks.table first n ∧ s.marks.table[n].record = none) :
    takeArm cue first s =
      if s.control.axisState = .live ∨ s.control.axisState = .armed then
        queuePace (changeState .armed (withArm (chainArm cue first m s) s))
      else withArm (chainArm cue first m s) s := by
  have stands : (queuePace (changeState .armed (withArm (chainArm cue first m s) s))).stopInput = true := by
    rw [queuePace_stopInput, changeState_stopInput]; exact active
  rw [takeArm_checked first numbered steers, checkChain_whole record whole]
  change (if _ then readStop _ (queuePace (changeState .armed (withArm (chainArm cue first m s) s))) else _) = _
  rw [readStop_active _ _ stands]
  rfl

/-- Settles O35: what the check of the chain says, on the node that has heard the sender. -/
theorem armChecksTheChain : Obligations.ArmChecksTheChain := by
  intro sender cue first s accepted stop open_
  have arms : exec (.arm sender cue first) s = .next (takeArm cue first (heardFrom sender s)) :=
    congrArg _ (cueFrame_accepts accepted _)
  rw [arms, heardFrom_eq]
  generalize (heardFrom sender s).peers = peers
  intro s' said st
  refine ⟨_, rfl, ?_⟩
  generalize result : takeArm cue first _ = t
  by_cases unheard : cue = 0 ∨ st = .setup ∨ st = .waking ∨ st = .parked
  · rw [if_pos unheard, ← result]
    exact takeArm_unheard first unheard
  rw [if_neg unheard]
  have numbered : cue ≠ 0 := fun h => unheard (.inl h)
  by_cases stopped : st = .halted ∨ st = .fault
  · rw [if_pos stopped, ← result]
    exact takeArm_stopped first numbered stopped
  rw [if_neg stopped]
  have steers : working st = true := by
    rw [← Bool.not_eq_false, not_working_iff]
    tauto
  have checked := result.symm.trans (takeArm_checked (s := s') first numbered steers)
  rcases record : s.marks.table[first].record with _ | m
  · exact checked.trans (by rw [checkChain_noMark record]; rfl)
  refine ⟨fun broken => checked.trans (by rw [checkChain_broken record broken]; rfl), fun whole => ?_⟩
  have accepted' := result.symm.trans (takeArm_accepted (s := s') numbered steers (stop accepted.1 steers) record whole)
  have inSet (n : MarkNo) := (walkFindsTheReachableMarks s.marks.table first n).1
  by_cases arming : st = .live ∨ st = .armed
  · obtain ⟨changed, control, pace, state⟩ := arms_changes (a := chainArm cue first m s') (s := s') open_
    rw [if_pos (by exact arming)] at accepted'
    subst accepted'
    refine ⟨_, congrArg RunControl.arm control, rfl, rfl, rfl, rfl, rfl, inSet, ?_⟩
    rw [if_pos arming]
    exact ⟨changed, control, pace, state⟩
  · rw [if_neg (by exact arming)] at accepted'
    subst accepted'
    refine ⟨_, rfl, rfl, rfl, rfl, rfl, rfl, inSet, ?_⟩
    rw [if_neg arming]
    rfl

end Sys2Proof.Machine
end

section
/-! ## RETURN: back to the stacked run (R49) -/

namespace Sys2Proof.Machine

/-- The frame numbers of a verb match as `Matches` says (R38). -/
theorem cueMatches_iff {cue own : CueNo} : cueMatches cue (some own) = true ↔ Matches cue own := by
  simp [cueMatches, Matches, eq_comm (a := own)]

theorem hasRun_iff {st : AxisState} :
    hasRun st = true ↔ st = .running ∨ st = .holding ∨ st = .waiting ∨ st = .releasing := by
  cases st <;> simp [hasRun]

/-- With a run the own cue is the run's (R82). -/
theorem ownCue_of_run {c : RunControl} {r : RunContext} (moves : hasRun c.axisState = true) (run : c.run = some r) :
    ownCue c = some r.cue := by
  rcases hasRun_iff.mp moves with h | h | h | h <;> rw [ownCue, h, run] <;> rfl

/-- A node that takes no cue leaves a RETURN unheard (R38). -/
theorem takeReturn_unheard {s : State} (h : s.control.axisState = .setup ∨ s.control.axisState = .waking ∨
    s.control.axisState = .parked) (cue : CueNo) (duration : Nat) : takeReturn cue duration s = s := by
  rcases h with h | h | h <;> rw [takeReturn, h]

theorem takeReturn_without_run {s : State} (h : s.control.axisState = .live ∨ s.control.axisState = .armed ∨
    s.control.axisState = .halted ∨ s.control.axisState = .fault) (cue : CueNo) (duration : Nat) :
    takeReturn cue duration s = cueAnswer .badState s := by
  rcases h with h | h | h | h <;> rw [takeReturn, h]

theorem takeReturn_releasing {s : State} {r : RunContext} (h : s.control.axisState = .releasing)
    (run : s.control.run = some r) (cue : CueNo) (duration : Nat) :
    takeReturn cue duration s = if Matches cue r.cue then cueAnswer .badState s else s := by
  rw [takeReturn, h, ownCue_of_run (by rw [h]; rfl) run]
  exact if_congr cueMatches_iff rfl rfl

/-- A RETURN of a run that keeps its stack (R49). -/
theorem takeReturn_stacked {s : State} {r : RunContext} (h : s.control.axisState = .running ∨
    s.control.axisState = .holding ∨ s.control.axisState = .waiting) (run : s.control.run = some r) (cue : CueNo)
    (duration : Nat) : takeReturn cue duration s = if Matches cue r.cue then
        match s.control.stack with
        | [] => cueAnswer .noReturn s
        | top :: rest => popRun duration top rest s
      else s := by
  have own : ownCue s.control = some r.cue := ownCue_of_run (hasRun_iff.mpr (by tauto)) run
  rcases h with h | h | h <;> rw [takeReturn, h, own] <;> exact if_congr cueMatches_iff rfl rfl

/-- The node with the run a RETURN makes of the context on top, before it is in RUNNING (R49, R92, R106, R116). -/
def withPopped (own : CueNo) (setpoint : Int) (duration : Nat) (top : RunContext) (rest : List RunContext) (s : State) :
    State :=
  { s with
    control := { s.control with
      run := some (returningRun setpoint duration top), stack := rest, cueResult := .noResult },
    pace := { s.pace with counted := if own = top.cue then s.pace.counted else [] },
    live := { s.live with remainder := 0 },
    blend := { s.blend with
      trim := 0, live := some setpoint, weightTarget := if top.authority = .follow then 4096 else top.share } }

theorem popRun_eq {s : State} {r : RunContext} {h : History} (active : s.stopInput = true)
    (moves : hasRun s.control.axisState = true) (run : s.control.run = some r) (history : s.blend.history = some h)
    (duration : Nat) (top : RunContext) (rest : List RunContext) :
    popRun duration top rest s = queuePace (changeState .running (withPopped r.cue h.prev duration top rest s)) := by
  have counts : countedFor (some r.cue) (some top.cue) s.pace.counted =
      if r.cue = top.cue then s.pace.counted else [] := by
    simp only [countedFor, Option.some_inj]
  have target : targetOf top.authority top.share = if top.authority = .follow then 4096 else top.share := by
    rcases top.authority <;> rfl
  have stands : (queuePace (changeState .running (withPopped r.cue h.prev duration top rest s))).stopInput = true := by
    rw [queuePace_stopInput, changeState_stopInput]; exact active
  rw [popRun, presentSetpoint, history, ownCue_of_run moves run, counts, target]
  exact readStop_active _ _ stands

/-- What a RETURN that pops a run comes to, among the states with a run (R49, R92, R106, R116). -/
theorem popped_changes (own : CueNo) (setpoint : Int) (duration : Nat) (top : RunContext) (rest : List RunContext)
    {s : State} (open_ : s.drive.permanent = false) :
    let x := withPopped own setpoint duration top rest s
    let t := queuePace (changeState .running x)
    ChangedAmongRuns x t ∧ t.control = inRun .running none x.control ∧
    ∃ p, t.bus.paceSlot = some p ∧ p.running = true ∧ p.cue = top.cue ∧
      p.destination = top.segment.destination := by
  intro x t
  have still : (changeState .running x).drive.permanent = false := by
    rw [changeState_drive_permanent]; exact open_
  have control : (changeState .running x).control = keepRecords .running x.control := changeState_control _ _
  refine ⟨changedAmongRuns_queuePace (changeState_changes open_ rfl) still,
    by rw [queuePace_control, control, keepRecords_running], _, queuePace_paceSlot still, ?_, ?_, ?_⟩
  all_goals rw [paceFrameOf, control]; rfl

/-- Settles O39, by what `takeReturn` does in each state, on the node that has heard the sender. -/
theorem returnGoesBack : Obligations.ReturnGoesBack := by
  intro sender cue duration s accepted stop open_
  have returns : exec (.returnCue sender cue duration) s =
      .next (takeReturn cue duration.toNat (heardFrom sender s)) := congrArg _ (cueFrame_accepts accepted _)
  rw [returns, heardFrom_eq]
  generalize (heardFrom sender s).peers = peers
  intro s' said st outcome
  refine ⟨fun r h moves run history => ?_, fun r releasing run => ?_, fun without => ?_, fun unheard => ?_⟩
  · have active : s.stopInput = true := stop accepted.1 (working_iff.mpr (by tauto))
    refine ⟨_, rfl, ?_⟩
    generalize result : takeReturn cue duration.toNat _ = t
    have stacked := result.symm.trans (takeReturn_stacked (s := s') moves run cue duration.toNat)
    by_cases matching : Matches cue r.cue
    · rw [if_pos matching] at stacked ⊢
      rcases stack : s.control.stack with _ | ⟨top, rest⟩
      · exact stacked.trans (by rw [show s'.control.stack = [] from stack]; rfl)
      · have popped := stacked.trans (by rw [show s'.control.stack = top :: rest from stack])
        dsimp only at popped
        rw [popRun_eq (s := s') active (hasRun_iff.mpr (by tauto)) run history] at popped
        subst popped
        exact popped_changes r.cue h.prev duration.toNat top rest (s := s') open_
    · rw [if_neg matching] at stacked ⊢
      exact stacked
  · exact congrArg _ (takeReturn_releasing (s := s') releasing run cue _)
  · exact congrArg _ (takeReturn_without_run (s := s') without cue _)
  · exact congrArg _ (takeReturn_unheard (s := s') unheard cue _)

end Sys2Proof.Machine
end

section
/-! ## GO: the run that waits at a stop mark goes on, and the other ways (R42, R45, R46) -/

namespace Sys2Proof.Machine

theorem armedFor_iff {cue : CueNo} {c : RunControl} :
    armedFor cue c = true ↔ ∃ a, c.arm = some a ∧ a.cue = cue := by
  rcases h : c.arm with _ | a <;> simp [armedFor, h]

/-- A GO with number 0, or in a state that takes no cue, does nothing (R38). -/
theorem takeGo_unheard {cue : CueNo} {s : State} (nest : Bool) (h : cue = 0 ∨ s.control.axisState = .setup ∨
    s.control.axisState = .waking ∨ s.control.axisState = .parked) : takeGo cue nest s = s := by
  rcases h with h | h | h | h <;> simp [takeGo, h]

theorem takeGo_stopped {cue : CueNo} {s : State} (nest : Bool) (numbered : cue ≠ 0)
    (h : s.control.axisState = .halted ∨ s.control.axisState = .fault) :
    takeGo cue nest s = cueAnswer .badState s := by
  rw [takeGo, if_neg numbered]
  rcases h with h | h <;> rw [h]

/-- Without its record a GO of a node in LIVE or RELEASING misses (R42). -/
theorem takeGo_missed {cue : CueNo} {s : State} (nest : Bool) (numbered : cue ≠ 0)
    (h : s.control.axisState = .live ∨ s.control.axisState = .releasing)
    (other : ¬ armedFor cue s.control = true) : takeGo cue nest s = cueAnswer .missed s := by
  rw [takeGo, if_neg numbered]
  rcases h with h | h <;> rw [h] <;> exact if_neg other

/-- An armed node that misses a GO goes to LIVE (R42). -/
theorem takeGo_armed {cue : CueNo} {s : State} (nest : Bool) (numbered : cue ≠ 0) (h : s.control.axisState = .armed)
    (other : ¬ armedFor cue s.control = true) :
    takeGo cue nest s =
      enterState .live { s with control := { s.control with arm := none, cueResult := .missed } } := by
  rw [takeGo, if_neg numbered, h]
  exact if_neg other

/-- A GO in the states that keep a stack (R44 to R46). -/
theorem takeGo_running {cue : CueNo} {s : State} (nest : Bool) (numbered : cue ≠ 0)
    (h : s.control.axisState = .running ∨ s.control.axisState = .holding ∨ s.control.axisState = .waiting) :
    takeGo cue nest s =
      if armedFor cue s.control then goPending nest s
      else if waitsForGo cue s.control then continueRun s
      else cueAnswer .missed s := by
  rw [takeGo, if_neg numbered]
  rcases h with h | h | h <;> rw [h]

theorem goPending_full {s : State} (full : 3 ≤ s.control.stack.length) :
    goPending true s = cueAnswer .stackFull s := by
  rw [goPending, if_pos rfl]
  exact if_pos full

theorem waitsForGo_iff {cue : CueNo} {c : RunControl} {r : RunContext} (run : c.run = some r) :
    waitsForGo cue c = true ↔ c.axisState = .waiting ∧ r.segment.wait = .stop ∧ r.cue = cue := by
  simp [waitsForGo, run]

/-! ### Going on from WAITING -/

/-- From WAITING a new segment takes the node back to RUNNING, told by both frames (R14, R89). -/
theorem beginSegment_from_waiting {q : RunContext} {s : State} (run : s.control.run = some q)
    (waiting : s.control.axisState = .waiting) (active : s.stopInput = true) (open_ : s.drive.permanent = false)
    (g : Segment) :
    let t := beginSegment g s
    ChangedAmongRuns s t ∧ Announced t ∧
      t.control = inRun .running none { s.control with run := some { q with segment := g } } := by
  intro t
  have running : t = changeState .running (withRun { q with segment := g } s) := by
    rw [← enterState_active .running (withRun { q with segment := g } s) active]
    change beginSegment g s = _
    rw [beginSegment, onSegment_withRun run]
    exact if_pos waiting
  rw [running]
  exact changeState_among (s := withRun { q with segment := g } s) open_
    (show sendsPace s.control.axisState = true by rw [waiting]; rfl) rfl
    (show s.control.axisState ≠ .running by rw [waiting]; nofun)

/-- What the end of a chain that is reached from WAITING comes to (R17): `s'` is the node that has heard the GO. -/
def EndsFromWaiting (m : Mark) (s' : State) (q : RunContext) (t : State) : Prop :=
  let control : RunControl := { s'.control with cueResult := .noResult }
  if s'.control.stack ≠ [] then
    let atEnd : RunContext := { q with segment := { q.segment with wait := .chainEnd } }
    ChangedAmongRuns s' t ∧ t.bus = s'.bus ∧ t.control = inRun .waiting none { control with run := some atEnd }
  else match m.endAction with
    | .release =>
      let remainder := if q.authority = .follow then 0 else s'.live.remainder
      ChangedAmongRuns { s' with live := { s'.live with remainder },
                                 blend := { s'.blend with weightTarget := 0 } } t ∧
      Announced t ∧ t.control = inRun .releasing none { control with run := some { q with frozen := true } }
    | .latch => LiveAt (some (presentSetpoint s'.blend)) { s' with control } t

theorem stepEnd_from_waiting {s' : State} (m : Mark) (q : RunContext) (waiting : s'.control.axisState = .waiting)
    (active : s'.stopInput = true) (open_ : s'.drive.permanent = false) :
    EndsFromWaiting m s' q (stepEnd m (withRun q (cueAnswer .noResult s'))) := by
  have run : (withRun q (cueAnswer .noResult s')).control.run = some q := rfl
  have stop : (withRun q (cueAnswer .noResult s')).stopInput = true := active
  have notReleasing : (withRun q (cueAnswer .noResult s')).control.axisState ≠ .releasing := by
    change s'.control.axisState ≠ .releasing
    rw [waiting]; nofun
  unfold EndsFromWaiting
  dsimp only
  by_cases stacked : s'.control.stack ≠ []
  · rw [if_pos stacked, stepEnd_stacked m notReleasing stacked, waitAt_eq run stop]
    exact ⟨changeState_changes open_ rfl, changeState_same_bus waiting, by rw [changeState_control]; rfl⟩
  have last : s'.control.stack = [] := not_not.mp stacked
  rw [if_neg stacked]
  rcases field : m.endAction with _ | _
  · dsimp only
    rw [stepEnd_release notReleasing last field, releaseEnd_eq run stop]
    obtain ⟨changed, announced, control⟩ := changeState_among (new := .releasing)
      (s := withRun { q with frozen := true } { cueAnswer .noResult s' with
        blend := { s'.blend with weightTarget := 0 },
        live := { s'.live with remainder := if q.authority = .follow then 0 else s'.live.remainder } }) open_
      (show sendsPace s'.control.axisState = true by rw [waiting]; rfl) rfl notReleasing
    exact ⟨changed, announced, control.trans (keepRecords_releasing last)⟩
  · rw [stepEnd_latch notReleasing last field]
    exact enterLiveAt_live _ open_ active (show s'.control.axisState ≠ .live by rw [waiting]; nofun)

/-- A GO at a stop mark goes on from the loop (R14, R46). -/
theorem continueRun_fromLoop {s' : State} {r : RunContext} {m : Mark} (run : s'.control.run = some r)
    (waiting : s'.control.axisState = .waiting) (active : s'.stopInput = true) (open_ : s'.drive.permanent = false)
    (record : s'.marks.table[r.segment.destination].record = some m) :
    FromLoop s' m { r with segment := { r.segment with wait := .nowhere } }
      (fun q => ChangedAmongRuns s' (continueRun s') ∧ Announced (continueRun s') ∧ (continueRun s').control =
        inRun .running none { s'.control with cueResult := .noResult, run := some q })
      (EndsFromWaiting m s' · (continueRun s')) := by
  let stood : RunContext := { r with segment := { r.segment with wait := .nowhere } }
  have continued : continueRun s' =
      stepLoop r.segment.destination m (withRun stood (cueAnswer .noResult s')) := by
    rw [continueRun, run, ← markAt_eq record]
    dsimp only
    rw [onSegment_withRun (s := { s' with control := { s'.control with cueResult := .noResult } }) run]
    rfl
  rw [continued]
  refine stepLoop_fromLoop (s := withRun stood (cueAnswer .noResult s')) (q := stood)
    (goesOn := fun q t => ChangedAmongRuns s' t ∧ Announced t ∧
      t.control = inRun .running none { s'.control with cueResult := .noResult, run := some q })
    (ends := EndsFromWaiting m s') rfl (fun k g => ?_) (fun k => ?_)
  · exact beginSegment_from_waiting (s := withRun { stood with loop := k } (cueAnswer .noResult s')) rfl waiting active
      open_ g
  · exact stepEnd_from_waiting m { stood with loop := k } waiting active open_

/-- Settles O37, by what `takeGo` does in each state; a run that continues goes the way of an arrival from the loop. -/
theorem goContinuesOrMisses : Obligations.GoContinuesOrMisses := by
  intro sender cue nest s accepted stop open_
  have goes : exec (.go sender cue nest) s = .next (takeGo cue nest (heardFrom sender s)) :=
    congrArg _ (cueFrame_accepts accepted _)
  rw [goes, heardFrom_eq]
  generalize (heardFrom sender s).peers = peers
  intro s' said st pending inStack
  have active (h : working st = true) : s.stopInput = true := stop accepted.1 h
  have record : armedFor cue s'.control = true ↔ pending := armedFor_iff
  refine ⟨_, rfl, takeGo_unheard (s := s') nest, fun numbered => ⟨takeGo_stopped (s := s') nest numbered,
    fun stacked pends nested full => ?_, fun h other => takeGo_missed (s := s') nest numbered h (record.not.mpr other),
    fun armed other => ?_, fun r stacked other run elsewhere => ?_,
    fun r m waiting other run stopped own mark => ?_⟩⟩
  · rw [takeGo_running (s := s') nest numbered stacked, if_pos (record.mpr pends), nested,
      goPending_full (s := s') full]
    rfl
  · rw [takeGo_armed (s := s') nest numbered armed (record.not.mpr other)]
    exact enterLive_live (s := { s' with control := { s'.control with arm := none, cueResult := .missed } }) open_
      (active (working_iff.mpr (.inr (.inl armed)))) (show st ≠ .live by rw [armed]; nofun)
  · rw [takeGo_running (s := s') nest numbered stacked, if_neg (record.not.mpr other),
      if_neg ((waitsForGo_iff run).not.mpr elsewhere)]
    rfl
  · intro control goesOn ends
    have continued : takeGo cue nest s' = continueRun s' := by
      rw [takeGo_running (s := s') nest numbered (.inr (.inr waiting)), if_neg (record.not.mpr other),
        if_pos ((waitsForGo_iff run).mpr ⟨waiting, stopped, own⟩)]
    have fromLoop := continueRun_fromLoop (s' := s') run waiting (active (working_iff.mpr (by tauto))) open_ mark
    rw [← continued] at fromLoop
    exact fromLoop

end Sys2Proof.Machine
end

section
/-! ## The update's path clock (R56 to R72)

What an arrival does to the axis state, and that the rest of an update then leaves run control alone. -/

namespace Sys2Proof.Machine

/-! ### An arrival changes the axis state at most once -/

/-- What an arrival leaves alone until it changes the axis state. -/
def heldParts (s : State) : AxisState × Nat × Bool := (s.control.axisState, s.blend.weight, s.stopInput)

/-- From a node with these parts, at most one change of axis state has come, and none to HALTED but by the stop
input. -/
def ChangesOnce (parts : AxisState × Nat × Bool) (t : State) : Prop :=
  heldParts t = parts ∨ ∃ u new, heldParts u = parts ∧ new ≠ AxisState.halted ∧ t = enterState new u

theorem heldParts_queuePace (s : State) : heldParts (queuePace s) = heldParts s := by simp [heldParts]

variable {parts : AxisState × Nat × Bool} {s : State}

theorem changesOnce_enterState {new : AxisState} (other : new ≠ .halted) (h : heldParts s = parts) :
    ChangesOnce parts (enterState new s) := .inr ⟨s, new, h, other, rfl⟩

theorem changesOnce_beginSegment (g : Segment) (h : heldParts s = parts) : ChangesOnce parts (beginSegment g s) := by
  unfold beginSegment
  dsimp only
  split
  · exact changesOnce_enterState nofun h
  · exact .inl ((heldParts_queuePace _).trans h)

theorem changesOnce_waitAt (w : WaitPoint) (h : heldParts s = parts) : ChangesOnce parts (waitAt w s) :=
  changesOnce_enterState (new := .waiting) nofun h

theorem changesOnce_stepEnd (m : Mark) (h : heldParts s = parts) : ChangesOnce parts (stepEnd m s) := by
  unfold stepEnd
  split
  · exact .inl h
  · split
    · exact changesOnce_waitAt _ h
    · split
      · exact changesOnce_enterState (new := .releasing) nofun h
      · exact changesOnce_enterState (new := .live) nofun h

theorem changesOnce_stepNext (m : Mark) (h : heldParts s = parts) : ChangesOnce parts (stepNext m s) := by
  unfold stepNext
  split
  · exact changesOnce_beginSegment _ h
  · exact changesOnce_stepEnd m h

theorem changesOnce_stepLoop (n : MarkNo) (m : Mark) (h : heldParts s = parts) :
    ChangesOnce parts (stepLoop n m s) := by
  unfold stepLoop
  split
  · dsimp only
    split
    · exact changesOnce_beginSegment _ h
    · exact changesOnce_stepNext m h
  · exact changesOnce_stepNext m h

theorem changesOnce_stepStop (n : MarkNo) (m : Mark) (h : heldParts s = parts) :
    ChangesOnce parts (stepStop n m s) := by
  unfold stepStop
  split
  · exact changesOnce_waitAt _ h
  · exact changesOnce_stepLoop n m h

theorem changesOnce_stepDwell (n : MarkNo) (m : Mark) (served : Bool) (h : heldParts s = parts) :
    ChangesOnce parts (stepDwell n m served s) := by
  unfold stepDwell
  split
  · exact changesOnce_stepStop n m h
  · dsimp only
    split
    · exact changesOnce_beginSegment _ h
    · exact changesOnce_stepStop n m h

theorem changesOnce_handBack (h : heldParts s = parts) : ChangesOnce parts (handBack s) := by
  unfold handBack
  split
  · exact .inl h
  · split
    · exact .inl h
    · rename_i r _ _ g _
      have back : heldParts (queuePace (withRun { r with segment := g, heldAside := none } s)) = parts :=
        (heldParts_queuePace _).trans h
      dsimp only
      split
      · exact .inl back
      · split
        · exact .inl back
        · split
          · exact changesOnce_stepLoop _ _ back
          · exact changesOnce_waitAt _ back
        · exact changesOnce_stepEnd _ back

theorem changesOnce_takeArrival (s : State) : ChangesOnce (heldParts s) (takeArrival s) := by
  unfold takeArrival
  split
  · exact .inl rfl
  · dsimp only
    split
    · exact changesOnce_handBack rfl
    · exact changesOnce_stepDwell _ _ _ rfl

/-- Only the stop input halts a node whose change is to another state (R139). -/
theorem enterState_halted {new : AxisState} (other : new ≠ .halted)
    (halted : (enterState new s).control.axisState = .halted) : s.stopInput = false := by
  rcases enterState_cases new s with h | ⟨stop, -, -⟩
  · rw [h, changeState_control] at halted
    exact absurd halted other
  · exact stop

/-- A node that enters a state with a run keeps its weight (R115). -/
theorem enterState_weight {new st : AxisState} (moves : hasRun st = true)
    (entered : (enterState new s).control.axisState = st) : (enterState new s).blend.weight = s.blend.weight := by
  rcases enterState_cases new s with h | ⟨-, -, h⟩
  · rw [h, changeState_control] at entered
    rw [h, changeState_weight, show new = st from entered, if_pos moves]
  · rw [h, haltNode, changeState_control] at entered
    rw [← entered] at moves
    exact absurd moves nofun

/-- An arrival of a node with a run halts it by the stop input alone (R139). -/
theorem takeArrival_halted (moves : hasRun s.control.axisState = true)
    (halted : (takeArrival s).control.axisState = .halted) : s.stopInput = false := by
  rcases changesOnce_takeArrival s with same | ⟨u, new, same, other, eq⟩
  · have state : (takeArrival s).control.axisState = s.control.axisState := congrArg Prod.fst same
    rw [← state, halted] at moves
    exact absurd moves nofun
  · rw [eq] at halted
    exact (congrArg (·.2.2) same).symm.trans (enterState_halted other halted)

/-- An arrival into RELEASING keeps the weight (R114). -/
theorem takeArrival_weight (releasing : (takeArrival s).control.axisState = .releasing) :
    (takeArrival s).blend.weight = s.blend.weight := by
  rcases changesOnce_takeArrival s with same | ⟨u, new, same, -, eq⟩
  · exact congrArg (·.2.1) same
  · rw [eq] at releasing ⊢
    exact (enterState_weight rfl releasing).trans (congrArg (·.2.1) same)

/-! ### After the path stage -/

/-- A weight above its step does not reach 0 in one update (R115). -/
theorem stepWeight_pos {step weight : Nat} (above : step < weight) (target : Nat) :
    stepWeight step weight target ≠ 0 := by
  unfold stepWeight
  split <;> omega

/-- The mix stage reports a weight at 0 only where one step brings it there, in RELEASING (R31). -/
theorem mixStage_weightAtZero {c : Configuration} {path : Option Int} {clamped : Bool}
    (above : s.blend.weightStep < s.blend.weight) : (mixStage c path clamped s).weightAtZero = false := by
  refine mixStage_cases (Q := fun m => m.weightAtZero = false) (fun h _ _ => ?_) (fun _ => ?_) (fun _ _ _ _ => rfl)
  · unfold mixedUpdate
    dsimp only
    rcases moves : hasRun s.control.axisState with _ | _
    · have other : s.control.axisState ≠ .releasing := by intro h; rw [h] at moves; exact absurd moves nofun
      rw [beq_false_of_ne other, Bool.false_and]
    · rw [if_pos rfl, beq_false_of_ne (stepWeight_pos above _), Bool.and_false]
  · unfold stoppedUpdate; split <;> rfl

/-- Run control stands where neither a halt nor a release has ended (R31, R33). -/
theorem takeReports_stands {m : MixResult} (halted : s.control.axisState = .halted → s.stopInput = false)
    (releasing : s.control.axisState = .releasing → m.weightAtZero = false) : takeReports m s = s := by
  unfold takeReports
  split
  · rename_i h; rw [if_neg (by rw [halted h]; simp)]
  · rename_i h; rw [if_neg (by rw [releasing h]; nofun)]
  · rfl

/-- What the rest of an update leaves of the path stage's result. -/
def settled (s : State) : RunControl × Bool × Nat × Nat := (s.control, s.stopInput, s.pace.applied, s.pace.ownNeed)

theorem paceCheck_frame (s : State) : ∃ bus lastNeedSent interval, paceCheck s =
    { s with bus := bus, pace := { s.pace with lastNeedSent := lastNeedSent, interval := interval } } := by
  unfold paceCheck sendPace
  split
  · split
    · exact ⟨_, _, _, rfl⟩
    · exact ⟨_, _, _, rfl⟩
  · exact ⟨_, _, _, rfl⟩

/-- The pace check and the live stage leave the drive link and the weight alone too (R87, R105). -/
theorem liveStage_paceCheck_frame (c : Configuration) (p : State) :
    let q := (liveStage c (paceCheck p)).1
    settled q = settled p ∧ q.drive = p.drive ∧ q.blend.weight = p.blend.weight ∧
      q.blend.weightStep = p.blend.weightStep := by
  obtain ⟨_, _, _, lived⟩ := liveStage_frame c (paceCheck p)
  obtain ⟨_, _, _, checked⟩ := paceCheck_frame p
  dsimp only
  rw [lived, checked]
  exact ⟨rfl, rfl, rfl, rfl⟩

/-- A quiet exchange touches the drive link alone (R132, R134). -/
theorem settled_exchangeStage {c : Configuration} (quiet : QuietClose c s.drive) (pair : Option (Int × Int)) :
    settled (exchangeStage c pair s) = settled s := by
  rw [exchangeStage, closeExchange_quiet quiet.1 quiet.2]
  obtain ⟨_, _, sent⟩ := sendRecord_opens pair { s with drive := { s.drive with
    missed := (closedCounts c s.drive).1, following := (closedCounts c s.drive).2, exchange := none } }
  rw [sent]
  rfl

/-- After the path stage an update leaves run control alone, where no check trips and no halt or release ends (R112). -/
theorem settled_runUpdate {c : Configuration} {p : State} (path : (pathStage c (paceWork c s)).1 = p)
    (quiet : QuietClose c p.drive) (halted : p.control.axisState = .halted → p.stopInput = false)
    (releasing : p.control.axisState = .releasing → p.blend.weightStep < p.blend.weight) :
    settled (runUpdate c s) = settled p := by
  subst path
  generalize mixed : mixStage c (pathStage c (paceWork c s)).2
    (liveStage c (paceCheck (pathStage c (paceWork c s)).1)).2
    (liveStage c (paceCheck (pathStage c (paceWork c s)).1)).1 = m
  have ran : runUpdate c s = takeReports m (exchangeStage c m.pair m.state) := by rw [← mixed]; rfl
  obtain ⟨lived, drive, weight, weightStep⟩ := liveStage_paceCheck_frame c (pathStage c (paceWork c s)).1
  have state := mixStage_state c (pathStage c (paceWork c s)).2
    (liveStage c (paceCheck (pathStage c (paceWork c s)).1)).2
    (liveStage c (paceCheck (pathStage c (paceWork c s)).1)).1
  rw [mixed] at state
  have sameDrive : m.state.drive = (pathStage c (paceWork c s)).1.drive := (congrArg State.drive state).trans drive
  have exchanged : settled (exchangeStage c m.pair m.state) = settled (pathStage c (paceWork c s)).1 :=
    (settled_exchangeStage (by rw [sameDrive]; exact quiet) _).trans ((congrArg settled state).trans lived)
  have axis := congrArg (·.1.axisState) exchanged
  have stop := congrArg (·.2.1) exchanged
  rw [ran, takeReports_stands, exchanged]
  · exact fun h => stop.trans (halted (axis.symm.trans h))
  · intro h
    rw [← mixed]
    exact mixStage_weightAtZero (by rw [weight, weightStep]; exact releasing (axis.symm.trans h))

/-- The fault cause plays no part in the closing of an exchange (R134). -/
theorem quietClose_of_steady {c : Configuration} {t : State} (same : steady t = steady s)
    (quiet : QuietClose c s.drive) : QuietClose c t.drive := by
  have drive : { t.drive with faultCause := none } = { s.drive with faultCause := none } :=
    congrArg Steady.drive same
  change QuietClose c { t.drive with faultCause := none }
  rw [drive]
  exact quiet

/-! ### The path stage -/

/-- A run in a state that moves along its path (R56, R57). -/
theorem pathStage_moving {c : Configuration} {r : RunContext} (run : s.control.run = some r)
    (moving : s.control.axisState = .running ∨ s.control.axisState = .holding ∨
      (s.control.axisState = .releasing ∧ r.frozen = false)) :
    pathStage c s = advancePath c r s := by
  rcases moving with h | h | ⟨h, frozen⟩
  · simp only [pathStage, run, h]
  · simp only [pathStage, run, h]
  · simp only [pathStage, run, h, frozen, Bool.false_eq_true, if_false]

/-- A run that waits or whose path is frozen hands over its end position (R56, R71). -/
theorem pathStage_standing {c : Configuration} {r : RunContext} (run : s.control.run = some r)
    (standing : s.control.axisState = .waiting ∨ (s.control.axisState = .releasing ∧ r.frozen = true)) :
    pathStage c s = (s, some (endPosition r.segment)) := by
  rcases standing with h | ⟨h, frozen⟩
  · simp only [pathStage, run, h]
  · simp only [pathStage, run, h, frozen, if_true]

/-- Without a run there is no path position (R56). -/
theorem pathStage_without_run {c : Configuration} (still : hasRun s.control.axisState = false) :
    pathStage c s = (s, none) := by
  unfold pathStage
  split
  · rfl
  · revert still
    cases s.control.axisState <;> simp [hasRun]

/-- The rest of an update after an arrival that ends neither a halt nor a release (R58, R112). -/
theorem settled_after_arrival {c : Configuration} {moved : State}
    (path : (pathStage c (paceWork c s)).1 = takeArrival moved)
    (quiet : QuietClose c moved.drive) (moves : hasRun moved.control.axisState = true)
    (lasting : ¬ ((takeArrival moved).control.axisState = .releasing ∧
      moved.blend.weight ≤ moved.blend.weightStep)) :
    settled (runUpdate c s) = settled (takeArrival moved) := by
  have same := steady_takeArrival moved
  have stop : (takeArrival moved).stopInput = moved.stopInput := congrArg Steady.stopInput same
  have weightStep : (takeArrival moved).blend.weightStep = moved.blend.weightStep := congrArg Steady.weightStep same
  refine settled_runUpdate path (quietClose_of_steady same quiet)
    (fun halted => stop.trans (takeArrival_halted moves halted)) (fun releasing => ?_)
  rw [weightStep, takeArrival_weight releasing]
  exact not_le.mp fun low => lasting ⟨releasing, low⟩

/-- Settles O19: the path stage by the state, and then the rest of the update, which leaves run control alone. -/
theorem updateAdvancesThePathClock : Obligations.UpdateAdvancesThePathClock := by
  intro c n s running config timer work st path ending
  have updated : exec .update s = .next (runUpdate c { s with blend := { s.blend with timer := some 0 } }) := by
    change Host.Outcome.next (whenRunning update s) = _
    rw [whenRunning_running running, update, config, timer]
  have notHalted (moves : hasRun st = true) (stop : Prop) (halted : st = .halted) : stop := by
    rw [halted] at moves; exact absurd moves nofun
  refine ⟨fun r run moving => ?_, fun r run standing => ?_, fun still => pathStage_without_run (s := work) still⟩
  · intro sum tau q moved arrived
    have moves : hasRun st = true := hasRun_iff.mpr (by tauto)
    have advanced :
        path = (if tau = r.segment.duration * 1000 then arrived else moved, some (pathPosition q.segment)) :=
      pathStage_moving (s := work) run moving
    have goesOn (inside : tau ≠ r.segment.duration * 1000) : path.1 = moved := by rw [advanced]; exact if_neg inside
    have arrives (atEnd : tau = r.segment.duration * 1000) : path.1 = arrived := by rw [advanced]; exact if_pos atEnd
    refine ⟨congrArg Prod.snd advanced, goesOn, arrives, fun quiet => ⟨_, updated, fun inside lasting => ?_,
      fun atEnd lasting => ?_⟩⟩
    · have kept := settled_runUpdate (goesOn inside) quiet (notHalted moves _)
        (fun h => not_le.mp fun low => lasting ⟨h, low⟩)
      exact ⟨congrArg Prod.fst kept, congrArg (·.2.2.1) kept, congrArg (·.2.2.2) kept⟩
    · exact congrArg Prod.fst (settled_after_arrival (moved := moved) (arrives atEnd) quiet moves lasting)
  · have stands : path = (work, some (endPosition r.segment)) := pathStage_standing (s := work) run standing
    have moves : hasRun st = true := hasRun_iff.mpr (by tauto)
    refine ⟨stands, fun quiet => ⟨_, updated, fun lasting => ?_⟩⟩
    exact congrArg Prod.fst (settled_runUpdate (congrArg Prod.fst stands) quiet (notHalted moves _)
      (fun h => not_le.mp fun low => lasting ⟨h, low⟩))

end Sys2Proof.Machine
end

section
/-! ## The path along a segment (R59 to R63)

The integer arithmetic of a path position is the exact one of its ease, rounded once; each ease rises from 0 to 1, so
the position goes from end to end without turning back. -/

namespace Sys2Proof.Machine

/-! ### Rounding to nearest, halves away from zero (00_scope 4.2) -/

theorem roundHalfAway_of_nonneg {x : ℚ} (nonneg : 0 ≤ x) : roundHalfAway x = ⌊x + 1 / 2⌋ := if_pos nonneg

@[simp] theorem roundHalfAway_zero : roundHalfAway 0 = 0 := by
  rw [roundHalfAway_of_nonneg le_rfl]; norm_num

theorem roundHalfAway_nonneg {x : ℚ} (nonneg : 0 ≤ x) : 0 ≤ roundHalfAway x := by
  rw [roundHalfAway_of_nonneg nonneg]
  exact Int.floor_nonneg.mpr (by linarith)

@[simp] theorem roundHalfAway_neg (x : ℚ) : roundHalfAway (-x) = -roundHalfAway x := by
  rcases lt_trichotomy x 0 with negative | rfl | positive
  · rw [roundHalfAway_of_nonneg (neg_nonneg.mpr negative.le), roundHalfAway, if_neg negative.not_ge, neg_neg]
  · simp
  · rw [roundHalfAway_of_nonneg positive.le, roundHalfAway, if_neg (by linarith), neg_neg]

@[simp] theorem roundHalfAway_natCast (n : Nat) : roundHalfAway n = n := by
  rw [roundHalfAway_of_nonneg n.cast_nonneg, Int.floor_natCast_add]; norm_num

@[simp] theorem roundHalfAway_intCast (n : Int) : roundHalfAway n = n := by
  obtain ⟨m, rfl | rfl⟩ := n.eq_nat_or_neg <;> simp

theorem roundHalfAway_mono : Monotone roundHalfAway := by
  have onNonneg {x y : ℚ} (nonneg : 0 ≤ x) (le : x ≤ y) : roundHalfAway x ≤ roundHalfAway y := by
    rw [roundHalfAway_of_nonneg nonneg, roundHalfAway_of_nonneg (nonneg.trans le)]
    gcongr
  have mirrored (x : ℚ) : roundHalfAway x = -roundHalfAway (-x) := by simp
  intro x y le
  rcases le_total 0 x with nonneg | nonpos
  · exact onNonneg nonneg le
  rw [mirrored x]
  rcases le_total 0 y with nonneg | negative
  · have := roundHalfAway_nonneg nonneg
    have := roundHalfAway_nonneg (neg_nonneg.mpr nonpos)
    omega
  · rw [mirrored y]
    exact neg_le_neg (onNonneg (neg_nonneg.mpr negative) (neg_le_neg le))

@[simp] theorem roundDiv_neg (n : Int) (d : Nat) : roundDiv (-n) d = -roundDiv n d := by
  simp [roundDiv]

theorem roundDiv_natCast (n : Nat) {d : Nat} (pos : 0 < d) : roundDiv n d = roundHalfAway (n / d) := by
  rcases n.eq_zero_or_pos with rfl | positive
  · simp [roundDiv]
  have half : (n / d + 1 / 2 : ℚ) = ((2 * n + d : Nat) : ℚ) / (2 * d : Nat) := by
    have : (d : ℚ) ≠ 0 := by positivity
    push_cast
    field_simp
  rw [roundHalfAway_of_nonneg (by positivity), half, Rat.floor_natCast_div_natCast, roundDiv,
    Int.sign_natCast_of_ne_zero positive.ne', one_mul, Int.natAbs_natCast, Int.natCast_ediv]

/-- The model's rounded quotient is the exact quotient rounded (00_scope 4.2). -/
theorem roundDiv_eq_roundHalfAway (n : Int) {d : Nat} (pos : 0 < d) : roundDiv n d = roundHalfAway (n / d) := by
  obtain ⟨m, rfl | rfl⟩ := n.eq_nat_or_neg
  · simpa using roundDiv_natCast m pos
  · simpa [neg_div] using roundDiv_natCast m pos

/-! ### The ease curves (R60 to R62) -/

theorem easeValue_denominator_pos (e : Ease) (u : Nat) : 0 < (easeValue e u).2 := by
  unfold easeValue
  split
  · norm_num
  · norm_num
  · split_ifs <;> norm_num

/-- The quotient of the model is the exact ease value at u16/65536. -/
theorem easeValue_eq_easeAt (e : Ease) (u : Nat) :
    ((easeValue e u).1 / (easeValue e u).2 : ℚ) = easeAt e (u / 65536) := by
  cases e with
  | cubic => simp only [easeValue, easeAt]; push_cast; ring
  | quintic => simp only [easeValue, easeAt]; push_cast; ring
  | cruise =>
    have first : ((u : ℚ) / 65536 ≤ 1 / 4) ↔ u ≤ 16384 := by
      rw [div_le_iff₀ (by norm_num), ← Nat.cast_le (α := ℚ)]; norm_num
    have second : ((u : ℚ) / 65536 ≤ 3 / 4) ↔ u ≤ 49152 := by
      rw [div_le_iff₀ (by norm_num), ← Nat.cast_le (α := ℚ)]; norm_num
    simp only [easeValue, easeAt, first, second]
    split_ifs <;> (push_cast; ring)

@[simp] theorem easeAt_zero (e : Ease) : easeAt e 0 = 0 := by cases e <;> norm_num [easeAt]

@[simp] theorem easeAt_one (e : Ease) : easeAt e 1 = 1 := by cases e <;> norm_num [easeAt]

section Cruise

variable {u : ℚ}

theorem easeAt_cruise_rise (h : u ≤ 1 / 4) : easeAt .cruise u = 8 / 3 * u ^ 2 := if_pos h

/-- The first two pieces agree at 1/4. -/
theorem easeAt_cruise_straight (low : 1 / 4 ≤ u) (high : u ≤ 3 / 4) : easeAt .cruise u = 4 / 3 * u - 1 / 6 := by
  rcases low.eq_or_lt with rfl | above
  · norm_num [easeAt]
  · rw [easeAt, if_neg above.not_ge, if_pos high]

/-- The last two pieces agree at 3/4. -/
theorem easeAt_cruise_fall (low : 3 / 4 ≤ u) : easeAt .cruise u = 1 - 8 / 3 * (1 - u) ^ 2 := by
  rcases low.eq_or_lt with rfl | above
  · norm_num [easeAt]
  · rw [easeAt, if_neg (by linarith), if_neg above.not_ge]

/-- Each piece of CRUISE rises, and its neighbours agree where they meet. -/
theorem easeAt_cruise_monotoneOn : MonotoneOn (easeAt .cruise) (Set.Icc 0 1) := by
  have rise : MonotoneOn (easeAt .cruise) (Set.Icc 0 (1 / 4)) := by
    intro u hu v hv le
    rw [easeAt_cruise_rise hu.2, easeAt_cruise_rise hv.2]
    have := hu.1
    gcongr
  have straight : MonotoneOn (easeAt .cruise) (Set.Icc (1 / 4) (3 / 4)) := by
    intro u hu v hv le
    rw [easeAt_cruise_straight hu.1 hu.2, easeAt_cruise_straight hv.1 hv.2]
    gcongr
  have fall : MonotoneOn (easeAt .cruise) (Set.Icc (3 / 4) 1) := by
    intro u hu v hv le
    rw [easeAt_cruise_fall hu.1, easeAt_cruise_fall hv.1]
    have := sub_nonneg.mpr hv.2
    gcongr
  have lower := rise.union_right straight (isGreatest_Icc (by norm_num)) (isLeast_Icc (by norm_num))
  rw [Set.Icc_union_Icc_eq_Icc (by norm_num) (by norm_num)] at lower
  have whole := lower.union_right fall (isGreatest_Icc (by norm_num)) (isLeast_Icc (by norm_num))
  rwa [Set.Icc_union_Icc_eq_Icc (by norm_num) (by norm_num)] at whole

end Cruise

/-- Between two progresses an ease rises: with a = u(1 − u), b = v(1 − v) and d = v − u, the mean slope of CUBIC is
3(a + b) + d² and that of QUINTIC 10(a² + ab + b²) + 5d²(a + b) + d⁴. -/
theorem easeAt_mono (e : Ease) {u v : ℚ} (nonneg : 0 ≤ u) (le : u ≤ v) (le_one : v ≤ 1) :
    easeAt e u ≤ easeAt e v := by
  have a : 0 ≤ u * (1 - u) := mul_nonneg nonneg (by linarith)
  have b : 0 ≤ v * (1 - v) := mul_nonneg (by linarith) (by linarith)
  have d : 0 ≤ v - u := sub_nonneg.mpr le
  rw [← sub_nonneg]
  cases e with
  | cubic =>
    have slope : easeAt .cubic v - easeAt .cubic u =
        (v - u) * (3 * (u * (1 - u) + v * (1 - v)) + (v - u) ^ 2) := by
      simp only [easeAt]; ring
    rw [slope]
    positivity
  | quintic =>
    have slope : easeAt .quintic v - easeAt .quintic u =
        (v - u) * (10 * ((u * (1 - u)) ^ 2 + u * (1 - u) * (v * (1 - v)) + (v * (1 - v)) ^ 2) +
          5 * (v - u) ^ 2 * (u * (1 - u) + v * (1 - v)) + (v - u) ^ 4) := by
      simp only [easeAt]; ring
    rw [slope]
    positivity
  | cruise =>
    exact sub_nonneg.mpr
      (easeAt_cruise_monotoneOn ⟨nonneg, le.trans le_one⟩ ⟨nonneg.trans le, le_one⟩ le)

/-! ### The path position (R63) -/

/-- The path position is exact up to its one rounding. -/
theorem positionAt_eq (g : Segment) (u : Nat) :
    positionAt g u = g.origin + roundHalfAway (g.delta * easeAt g.ease (u / 65536)) := by
  rw [positionAt, roundDiv_eq_roundHalfAway _ (easeValue_denominator_pos _ _), ← easeValue_eq_easeAt]
  push_cast
  rw [mul_div_assoc]

theorem positionAt_start (g : Segment) : positionAt g 0 = g.origin := by simp [positionAt_eq]

theorem positionAt_end (g : Segment) : positionAt g 65536 = g.origin + g.delta := by simp [positionAt_eq]

variable {g : Segment} {u v : Nat}

theorem ease_mono_of_progress (le : u ≤ v) (le_end : v ≤ 65536) :
    easeAt g.ease (u / 65536) ≤ easeAt g.ease (v / 65536) := by
  have : (v : ℚ) ≤ 65536 := by exact_mod_cast le_end
  exact easeAt_mono _ (by positivity) (by gcongr) (by linarith)

/-- Where the distance is not negative, the path never goes down. -/
theorem positionAt_rises (rising : 0 ≤ g.delta) (le : u ≤ v) (le_end : v ≤ 65536) :
    positionAt g u ≤ positionAt g v := by
  have delta : (0 : ℚ) ≤ g.delta := by exact_mod_cast rising
  rw [positionAt_eq, positionAt_eq]
  exact add_le_add_right
    (roundHalfAway_mono (mul_le_mul_of_nonneg_left (ease_mono_of_progress le le_end) delta)) _

/-- Where the distance is not positive, the path never goes up. -/
theorem positionAt_falls (falling : g.delta ≤ 0) (le : u ≤ v) (le_end : v ≤ 65536) :
    positionAt g v ≤ positionAt g u := by
  have delta : (g.delta : ℚ) ≤ 0 := by exact_mod_cast falling
  rw [positionAt_eq, positionAt_eq]
  exact add_le_add_right
    (roundHalfAway_mono (mul_le_mul_of_nonpos_left (ease_mono_of_progress le le_end) delta)) _

/-- Settles O14: the position at a progress rises or falls with the ease, from its value at 0 to its value at 65536. -/
theorem pathFollowsTheEase : Obligations.PathFollowsTheEase := by
  intro g u v le le_end
  refine ⟨positionAt_eq g u, positionAt_start g, positionAt_end g, fun rising => ?_, fun falling => ?_⟩
  · rw [← positionAt_end g, ← positionAt_start g]
    exact ⟨positionAt_rises rising u.zero_le (le.trans le_end), positionAt_rises rising le le_end,
      positionAt_rises rising le_end le_rfl⟩
  · rw [← positionAt_end g, ← positionAt_start g]
    exact ⟨positionAt_falls falling le_end le_rfl, positionAt_falls falling le le_end,
      positionAt_falls falling u.zero_le (le.trans le_end)⟩

/-! ### Segment progress (R59) -/

/-- The model's progress is the exact quotient rounded down. -/
theorem progress_eq_floor (g : Segment) :
    (progress g : Int) = ⌊(g.tau * 65536 : ℚ) / (g.duration * 1000)⌋ := by
  have floor := Rat.floor_natCast_div_natCast (g.tau * 65536) (g.duration * 1000)
  push_cast at floor
  rw [floor, progress, segmentEnd, Int.natCast_ediv]
  push_cast
  rfl

theorem progress_start (start : g.tau = 0) : progress g = 0 := by simp [progress, start]

/-- Before the segment's end the progress is below 65536. -/
theorem progress_lt_iff (lasts : 0 < segmentEnd g) : progress g < 65536 ↔ g.tau < segmentEnd g := by
  rw [progress, Nat.div_lt_iff_lt_mul lasts, mul_comm, Nat.mul_lt_mul_left (by norm_num)]

theorem progress_le (within : g.tau ≤ segmentEnd g) : progress g ≤ 65536 :=
  Nat.div_le_of_le_mul (Nat.mul_le_mul_right _ within)

/-- Settles O13: progress reaches 65536 where the path time reaches the segment's end, and not before. -/
theorem progressIsRoundedDown : Obligations.ProgressIsRoundedDown := by
  intro g lasts within
  have before := progress_lt_iff (g := g) (Nat.mul_pos lasts (by norm_num))
  have bound := progress_le within
  refine ⟨progress_eq_floor g, progress_start, ?_, positionAt_eq g (progress g)⟩
  rw [← segmentEnd]
  omega

end Sys2Proof.Machine
end

section
/-! ## The need terms (R76, R77) -/

namespace Sys2Proof.Machine

variable {p : Nat → Bool}

theorem largest_lt (p : Nat → Bool) (bits acc : Nat) : largest p bits acc < acc + 2 ^ bits := by
  induction bits generalizing acc with
  | zero => simp [largest]
  | succ bits ih =>
    rw [largest, pow_succ]
    split
    · have := ih (acc + 2 ^ bits); omega
    · have := ih acc; omega

/-- The search finds where a property that holds up to some number stops (R77, R122). -/
theorem le_largest_iff (falls : ∀ m n, m ≤ n → p n = true → p m = true) {bits acc k : Nat}
    (start : p acc = true) (inside : k < acc + 2 ^ bits) : k ≤ largest p bits acc ↔ p k = true := by
  induction bits generalizing acc with
  | zero =>
    have below : k ≤ acc := by simpa [Nat.lt_succ_iff] using inside
    exact iff_of_true below (falls k acc below start)
  | succ bits ih =>
    rw [pow_succ] at inside
    rw [largest]
    split
    · rename_i more
      exact ih more (by omega)
    · rename_i less
      rcases lt_or_ge k (acc + 2 ^ bits) with low | high
      · exact ih start low
      · have found := largest_lt p bits acc
        exact iff_of_false (by omega) fun holds => less (falls _ _ high holds)

/-- R76 in whole numbers. -/
theorem le_velocityTerm_iff (veff : Nat) {distance duration : Nat} (e : Ease) (far : 0 < distance) (k : Nat) :
    k ≤ velocityTerm veff distance duration e ↔
      k * ((peakSlope e).1 * distance * 1000) ≤ 1024 * veff * duration * (peakSlope e).2 := by
  have slope : 0 < (peakSlope e).1 := by cases e <;> decide
  exact Nat.le_div_iff_mul_le (by positivity)

/-- R77 in whole numbers, as far as the search goes. -/
theorem le_accelerationTerm_iff (acc distance duration : Nat) (e : Ease) {k : Nat} (inside : k < 2048) :
    k ≤ accelerationTerm acc distance duration e ↔
      k * k * ((peakCurve e).1 * distance * 1000000) ≤ 1024 * 1024 * acc * duration ^ 2 * (peakCurve e).2 := by
  rw [accelerationTerm, le_largest_iff (fun m n le holds => ?_) (by simp) inside, decide_eq_true_iff]
  rw [decide_eq_true_iff] at holds ⊢
  exact le_trans (by gcongr) holds

/-- Settles O15: each term is the exact inequality in whole numbers, both sides multiplied by the denominators. -/
theorem needTermsAreTheLargestPaces : Obligations.NeedTermsAreTheLargestPaces := by
  intro veff acc distance duration e far lasts kv ka vpk apk
  have span : (0 : ℚ) < duration := by exact_mod_cast lasts
  refine ⟨fun k => ?_, fun k low => ?_⟩
  · have slope : kv * (peakSlope e).2 = (peakSlope e).1 := by cases e <;> norm_num [kv, peakSlope]
    have parts : (0 : ℚ) < (peakSlope e).2 := by cases e <;> norm_num [peakSlope]
    calc k ≤ velocityTerm veff distance duration e
        ↔ (k : ℚ) * ((peakSlope e).1 * distance * 1000) ≤ 1024 * veff * duration * (peakSlope e).2 := by
          exact_mod_cast le_velocityTerm_iff veff e far k
      _ ↔ kv * distance * 1000 * k * (peakSlope e).2 ≤ veff * 1024 * duration * (peakSlope e).2 := by
          rw [← slope]; ring_nf
      _ ↔ kv * distance * 1000 * k ≤ veff * 1024 * duration := mul_le_mul_iff_left₀ parts
      _ ↔ vpk * k / 1024 ≤ veff := by
          rw [div_le_iff₀ (by norm_num), div_mul_eq_mul_div, div_le_iff₀ span]
  · have curve : ka * (peakCurve e).2 = (peakCurve e).1 := by cases e <;> norm_num [ka, peakCurve]
    have parts : (0 : ℚ) < (peakCurve e).2 := by cases e <;> norm_num [peakCurve]
    calc k ≤ accelerationTerm acc distance duration e
        ↔ (k : ℚ) * k * ((peakCurve e).1 * distance * 1000000) ≤
            1024 * 1024 * acc * duration ^ 2 * (peakCurve e).2 := by
          exact_mod_cast le_accelerationTerm_iff acc distance duration e (by omega)
      _ ↔ k ^ 2 * (ka * distance * 10 ^ 6) * (peakCurve e).2 ≤ 1024 ^ 2 * acc * duration ^ 2 * (peakCurve e).2 := by
          rw [← curve]; ring_nf
      _ ↔ k ^ 2 * (ka * distance * 10 ^ 6) ≤ 1024 ^ 2 * acc * duration ^ 2 := mul_le_mul_iff_left₀ parts
      _ ↔ (k : ℚ) ^ 2 * apk ≤ 1024 ^ 2 * acc := by
          rw [mul_div_assoc', div_le_iff₀ (by positivity)]

end Sys2Proof.Machine
end

section
/-! ## The effective velocity and a PACE frame's need (R75, R78, R79, R151) -/

namespace Sys2Proof.Machine

/-! ### The arm length (R151) -/

/-- An entry whose length counts, with that length. -/
def CountsForLength (peers : List PeerEntry) (e : PeerEntry) (x : Int) : Prop :=
  e ∈ peers ∧ e.axisKind = some .telescope ∧ e.presence = .present ∧ e.stateAge ≤ 250 ∧ e.position = some x

theorem mem_lengths_iff {peers : List PeerEntry} {x : Int} :
    x ∈ (peers.filter lengthCounts).filterMap (·.position) ↔ ∃ e, CountsForLength peers e x := by
  simp only [List.mem_filterMap, List.mem_filter, lengthCounts, Bool.and_eq_true, beq_iff_eq, decide_eq_true_eq,
    and_assoc]
  rfl

theorem armLength_none {peers : List PeerEntry} (h : ∀ e x, ¬ CountsForLength peers e x) : armLength peers = none := by
  rw [armLength, List.max?_eq_none_iff, List.eq_nil_iff_forall_not_mem]
  intro x found
  obtain ⟨e, counts⟩ := mem_lengths_iff.mp found
  exact h e x counts

theorem armLength_largest {peers : List PeerEntry} {e : PeerEntry} {x : Int} (counts : CountsForLength peers e x)
    (largest : ∀ e' x', CountsForLength peers e' x' → x' ≤ x) : armLength peers = some x := by
  rw [armLength, List.max?_eq_some_iff]
  refine ⟨mem_lengths_iff.mpr ⟨e, counts⟩, fun x' found => ?_⟩
  obtain ⟨e', counts'⟩ := mem_lengths_iff.mp found
  exact largest e' x' counts'

/-! ### The effective velocity (R79) -/

theorem limitedByTip_iff {k : AxisKind} : limitedByTip k = true ↔ k = .swing ∨ k = .lift := by
  simp [limitedByTip]

theorem veffOf_swings {c : Configuration} {peers : List PeerEntry} {tip : Nat} {x : Int}
    (swings : c.axisKind = .swing ∨ c.axisKind = .lift) (tipSpeed : c.tipSpeed = some tip)
    (length : (armLength peers).getD (c.assumedLength.getD 0) = x) :
    veffOf c peers = min c.velMax (tip * 1000000 / (max 500 (min x 100000)).toNat) := by
  rw [veffOf, if_pos (limitedByTip_iff.mpr swings), usedLength, length, tipSpeed]
  rfl

/-- Settles O16: off the arm VEL_MAX stands; on it the arm length is the largest that counts, or the assumed one. -/
theorem armTipLimitsSwingAndLift : Obligations.ArmTipLimitsSwingAndLift := by
  intro c peers counts limit swings
  refine ⟨fun steady => if_neg (limitedByTip_iff.not.mpr steady), fun tip assumed arm tipSpeed assumedLength =>
    ⟨fun none_fresh => ?_, fun e x fresh largest => ?_⟩⟩
  · exact veffOf_swings arm tipSpeed (by rw [armLength_none none_fresh, assumedLength]; rfl)
  · exact veffOf_swings arm tipSpeed (by rw [armLength_largest fresh largest]; rfl)

/-! ### The own need (R75, R78) -/

variable {c : Configuration} {veff : Nat} {s : State}

theorem ownNeedOf_moving {r : RunContext} (moving : s.control.axisState = .running ∨ s.control.axisState = .holding)
    (run : s.control.run = some r) :
    ownNeedOf c veff s = segmentNeed c veff r.segment.delta r.segment.duration r.segment.ease := by
  rcases moving with h | h <;> simp only [ownNeedOf, h, run]

theorem ownNeedOf_armed {a : ArmRecord} {m : Mark} {h : History} (armed : s.control.axisState = .armed)
    (arm : s.control.arm = some a) (mark : s.marks.table[a.first].record = some m)
    (history : s.blend.history = some h) :
    ownNeedOf c veff s = segmentNeed c veff (m.position - h.prev) m.duration m.ease := by
  simp only [ownNeedOf, armed, arm, mark, presentSetpoint, history]

theorem ownNeedOf_standing (standing : s.control.axisState = .waiting ∨ s.control.axisState = .releasing) :
    ownNeedOf c veff s = 1024 := by
  rcases standing with h | h <;> simp only [ownNeedOf, h, fullPace]

theorem ownNeedOf_silent (silent : sendsPace s.control.axisState = false) : ownNeedOf c veff s = s.pace.ownNeed := by
  unfold ownNeedOf
  revert silent
  cases s.control.axisState <;> simp [sendsPace]

theorem needNow_eq (config : s.startup.config = some c) : needNow s = ownNeedOf c (veffOf c s.peers) s := by
  simp only [needNow, config]

/-! ### What a PACE frame names (R82, R88) -/

theorem ownCue_armed {k : RunControl} {a : ArmRecord} (armed : k.axisState = .armed) (arm : k.arm = some a) :
    ownCue k = some a.cue := by
  simp only [ownCue, armed, arm, Option.map_some]

theorem paceDestination_armed {k : RunControl} {a : ArmRecord} (armed : k.axisState = .armed) (arm : k.arm = some a) :
    paceDestination k = a.first := by
  simp only [paceDestination, armed, arm]

theorem paceDestination_run {k : RunControl} {r : RunContext} (other : k.axisState ≠ .armed) (run : k.run = some r) :
    paceDestination k = r.segment.destination := by
  unfold paceDestination
  rw [run]
  split
  · contradiction
  · contradiction
  · rename_i found _ _; cases found; rfl
  · contradiction

theorem sendsPace_iff {st : AxisState} : sendsPace st = true ↔
    st = .armed ∨ st = .running ∨ st = .holding ∨ st = .waiting ∨ st = .releasing := by
  cases st <;> simp [sendsPace]

/-- Settles O26: the frame is the one of the need worked out now, in each state that sends one. -/
theorem paceIntervalQueuesAPaceFrame : Obligations.PaceIntervalQueuesAPaceFrame := by
  intro c n s running config interval open_ st needOf
  have taken : exec .paceInterval s = .next (if sendsPace st then queuePace s else s) := by
    change Host.Outcome.next (whenRunning paceInterval s) = _
    rw [whenRunning_running running, paceInterval, interval, Option.isSome_some, Bool.true_and]
  split
  · rename_i sends
    rw [taken, if_pos (sendsPace_iff.mpr sends), queuePace_open open_]
    refine ⟨paceFrameOf (needNow s) s, rfl, rfl, rfl, rfl, rfl, fun a m h armed arm mark history => ?_,
      fun r other run => ?_, rfl⟩
    · have cue := ownCue_armed armed arm
      refine ⟨?_, paceDestination_armed armed arm, ?_⟩
      · simp only [paceFrameOf, cue, Option.getD_some]
      · exact (needNow_eq config).trans (ownNeedOf_armed armed arm mark history)
    · have moves : hasRun st = true := hasRun_iff.mpr (by tauto)
      have cue := ownCue_of_run moves run
      refine ⟨?_, paceDestination_run other run, ?_⟩
      · simp only [paceFrameOf, cue, Option.getD_some]
      · refine (needNow_eq config).trans ?_
        split
        · exact ownNeedOf_moving ‹_› run
        · exact ownNeedOf_standing (by tauto)
  · rename_i silent
    rw [taken, if_neg (by rwa [sendsPace_iff])]

end Sys2Proof.Machine
end

section
/-! ## What the peer table records of a frame (R145 to R147, R150) -/

namespace Sys2Proof.Machine

variable {sender : Addr} {s : State}

/-- The peer table after a frame of a sender whose entry has become `e`: no other entry changes, and address 0 has
none (R146). -/
def RecordsEntry (sender : Addr) (s : State) (peers : List PeerEntry) (e : PeerEntry) : Prop :=
  (∀ b, b ≠ sender → peerAt peers b = peerAt s.peers b) ∧ (sender = 0 → peers = s.peers) ∧
    (sender ≠ 0 → peerAt peers sender = some e)

/-- A frame's record is put into its sender's entry, made first if there is none (R146). -/
theorem hear_recordsEntry (lawful : PeersLawful s) (record : PeerEntry → PeerEntry)
    (address : ∀ e, (record e).address = e.address) :
    RecordsEntry sender s (hear sender record s).peers (record ((peerAt s.peers sender).getD (newEntry sender))) := by
  by_cases none : sender = 0
  · have same : hear sender record s = s := if_pos none
    rw [same]
    exact ⟨fun _ _ => rfl, fun _ => rfl, fun some => absurd none some⟩
  · have heard : (hear sender record s).peers = upsertPeer sender record s.peers := by rw [hear, if_neg none]
    rw [heard]
    exact ⟨fun b other => peerAt_upsertPeer_other sender b other record address s.peers,
      fun zero => absurd zero none, fun _ => peerAt_upsertPeer sender record address s.peers lawful.rising⟩

theorem hear_eq (sender : Addr) (record : PeerEntry → PeerEntry) (s : State) :
    hear sender record s = { s with peers := (hear sender record s).peers } := by
  unfold hear
  split <;> rfl

/-- A PACE frame under another cue, or one that names no state, takes its sender out of the counted set (R92, R150). -/
theorem leaveCounted_eq (sender : Addr) (p : PacePayload) (s : State) :
    let counted : List Addr := if ownCue s.control ≠ some p.cue ∨
        (p.armed = false ∧ p.running = false ∧ p.holding = false ∧ p.waiting = false)
      then s.pace.counted.filter (· ≠ sender) else s.pace.counted
    leaveCounted sender p s = { s with pace := { s.pace with counted } } := by
  intro counted
  have leaves : (some p.cue != ownCue s.control || !(p.armed || p.running || p.holding || p.waiting)) = true ↔
      ownCue s.control ≠ some p.cue ∨
        (p.armed = false ∧ p.running = false ∧ p.holding = false ∧ p.waiting = false) := by
    simp [eq_comm (a := some p.cue), and_assoc]
  have filtered : s.pace.counted.filter (· != sender) = s.pace.counted.filter (· ≠ sender) :=
    List.filter_congr fun a _ => by rw [Bool.eq_iff_iff, bne_iff_ne, decide_eq_true_iff]
  rw [leaveCounted, filtered]
  split
  · rename_i h; rw [show counted = _ from if_pos (leaves.mp h)]
  · rename_i h; rw [show counted = _ from if_neg (leaves.not.mp h)]

/-- Settles O41: each command is the record of its frame, and for a PACE frame the leaving of the counted set. -/
theorem framesAreRecorded : Obligations.FramesAreRecorded := by
  intro sender p q s accepts lawful unheard entry records counted
  have recorded (record : PeerEntry → PeerEntry) (address : ∀ e, (record e).address = e.address) :
      RecordsEntry sender s (hear sender record s).peers (record entry) := hear_recordsEntry lawful record address
  have receives (record : PeerEntry → PeerEntry) (handle : State → State) :
      receive sender record handle s = handle (hear sender record s) := receive_accepts accepts record handle
  refine ⟨⟨leaveCounted sender p (hear sender (recordPace p) s), ?_, ?_, ?_⟩,
    ⟨hear sender (recordState q) s, ?_, hear_eq _ _ _, recorded _ fun _ => rfl⟩,
    recorded recordAny fun _ => rfl, fun r tag result data => ?_, fun verb cue => ?_⟩
  · exact congrArg Host.Outcome.next (receives (recordPace p) (leaveCounted sender p))
  · rw [leaveCounted_eq, hear_eq]
  · rw [leaveCounted_eq]; exact recorded (recordPace p) fun _ => rfl
  · exact congrArg Host.Outcome.next (receives (recordState q) id)
  · exact congrArg Host.Outcome.next (receives recordAny id)
  · exact congrArg Host.Outcome.next (receives recordAny id)

end Sys2Proof.Machine
end

section
/-! ## The update's pace work (R80 to R85, R92) -/

namespace Sys2Proof.Machine

/-! ### Fresh needs (R81) -/

theorem freshNeed_eq_some_iff {own : Option CueNo} {e : PeerEntry} {need : Nat} : freshNeed own e = some need ↔
    e.need = some need ∧ e.paceAge ≤ 250 ∧ (∃ cue, own = some cue ∧ e.paceCue = some cue) ∧
      (e.flags.armed = true ∨ e.flags.running = true ∨ e.flags.holding = true ∨ e.flags.waiting = true) := by
  have sameCue : own.isSome = true ∧ e.paceCue = own ↔ ∃ cue, own = some cue ∧ e.paceCue = some cue := by
    cases own <;> simp
  simp only [freshNeed, anyStateFlag, Option.ite_none_right_eq_some, Bool.and_eq_true, Bool.or_eq_true, beq_iff_eq,
    decide_eq_true_eq, ← sameCue, or_assoc]
  change _ ∧ _ ↔ _ ∧ e.paceAge ≤ freshMs ∧ _
  tauto

theorem mem_freshNeeds_iff {own : Option CueNo} {peers : List PeerEntry} {a : Addr} {need : Nat} :
    (a, need) ∈ freshNeeds own peers ↔ ∃ e ∈ peers, e.address = a ∧ e.need = some need ∧ e.paceAge ≤ 250 ∧
      (∃ cue, own = some cue ∧ e.paceCue = some cue) ∧
      (e.flags.armed = true ∨ e.flags.running = true ∨ e.flags.holding = true ∨ e.flags.waiting = true) := by
  simp only [freshNeeds, List.mem_filterMap, Option.map_eq_some_iff, Prod.mk.injEq, ← freshNeed_eq_some_iff]
  constructor
  · rintro ⟨e, known, x, fresh, address, rfl⟩; exact ⟨e, known, address, fresh⟩
  · rintro ⟨e, known, address, fresh⟩; exact ⟨e, known, need, fresh, address, rfl⟩

/-! ### Target, dial pace and applied pace (R83 to R85) -/

/-- In RUNNING and RELEASING the target is the least of the needs and the dial pace (R84). -/
theorem paceTargetOf_isLeast {st : AxisState} (moving : st = .running ∨ st = .releasing) (need dial : Nat)
    (fresh : List (Addr × Nat)) :
    IsLeast {x | x = need ∨ x = dial ∨ ∃ a, (a, x) ∈ fresh} (paceTargetOf st need dial fresh) := by
  have least : (need :: dial :: fresh.map (·.2)).min? = some (paceTargetOf st need dial fresh) := by
    rcases moving with rfl | rfl <;> rfl
  obtain ⟨found, below⟩ := List.min?_eq_some_iff.mp least
  have values (x : Nat) : x ∈ need :: dial :: fresh.map (·.2) ↔ x = need ∨ x = dial ∨ ∃ a, (a, x) ∈ fresh := by
    simp
  exact ⟨(values _).mp found, fun x known => below x ((values x).mpr known)⟩

theorem paceTargetOf_elsewhere {st : AxisState} (h : st ≠ .running) (h' : st ≠ .releasing) (need dial : Nat)
    (fresh : List (Addr × Nat)) : paceTargetOf st need dial fresh = 0 := by
  unfold paceTargetOf
  split
  · contradiction
  · contradiction
  · rfl

theorem dialPaceNow_eq (l : LiveUnit) : (dialPaceNow l : Int) = match l.dial.bind (·.value) with
    | some v => max 0 v * 1024 / 2047
    | none => 1024 := by
  unfold dialPaceNow
  rcases l.dial.bind (·.value) with _ | v
  · rfl
  · dsimp only
    rw [dialPaceOf]
    push_cast
    rw [Int.toNat_of_nonneg (le_max_left _ _)]

variable {T applied target : Nat}

theorem slewPace_up (h : applied < target) : slewPace T applied target = min 1024 (min target (applied + T)) := by
  rw [slewPace, if_pos h, fullPace]

theorem slewPace_down (h : target < applied) : slewPace T applied target = min 1024 (max target (applied - 2 * T)) := by
  rw [slewPace, if_neg h.not_gt, fullPace]

theorem slewPace_there : slewPace T target target = min 1024 target := by
  rw [slewPace, if_neg (lt_irrefl _), fullPace, max_eq_left (Nat.sub_le _ _)]

/-! ### The counted set (R92) -/

theorem joinCounted_cons (counted : List Addr) (x : Addr × Nat) (fresh : List (Addr × Nat)) :
    joinCounted counted (x :: fresh) =
      joinCounted (if x.1 ∈ counted then counted else counted ++ [x.1]) fresh := by
  simp [joinCounted]

/-- Every address with a fresh need joins the counted set (R92). -/
theorem mem_joinCounted_iff {counted : List Addr} {fresh : List (Addr × Nat)} {a : Addr} :
    a ∈ joinCounted counted fresh ↔ a ∈ counted ∨ ∃ need, (a, need) ∈ fresh := by
  induction fresh generalizing counted with
  | nil => simp [joinCounted]
  | cons x fresh ih =>
    have joined : a ∈ (if x.1 ∈ counted then counted else counted ++ [x.1]) ↔ a ∈ counted ∨ a = x.1 := by
      split
      · rename_i known; exact ⟨.inl, fun h => h.elim id (· ▸ known)⟩
      · simp
    have first : (∃ need, (a, need) = x) ↔ a = x.1 := ⟨by rintro ⟨_, rfl⟩; rfl, by rintro rfl; exact ⟨x.2, rfl⟩⟩
    rw [joinCounted_cons, ih, joined]
    simp only [List.mem_cons, exists_or, first, or_assoc]

/-- An address joins the counted set once (R92). -/
theorem joinCounted_nodup {counted : List Addr} {fresh : List (Addr × Nat)} (once : counted.Nodup) :
    (joinCounted counted fresh).Nodup := by
  induction fresh generalizing counted with
  | nil => exact once
  | cons x fresh ih =>
    rw [joinCounted_cons]
    refine ih ?_
    split
    · exact once
    · rename_i unknown; exact once.append (List.nodup_singleton _) (List.disjoint_singleton.mpr unknown)

/-! ### When a PACE frame is due (R90) -/

theorem paceDue_iff {p : PaceUnit} {sent : Nat} (last : p.lastNeedSent = some sent) :
    paceDue p = true ↔ 16 ≤ ((p.ownNeed : Int) - sent).natAbs ∨ ∃ k, p.interval = some k ∧ 50 ≤ k := by
  simp only [paceDue, last, Bool.or_eq_true, decide_eq_true_eq, Option.any_eq_true]
  rfl

variable {s : State}

theorem paceCheck_silent (silent : sendsPace s.control.axisState = false) : paceCheck s = s := by
  rw [paceCheck, silent]; rfl

theorem paceCheck_early (early : paceDue s.pace = false) : paceCheck s = s := by
  rw [paceCheck, early, Bool.and_false]; rfl

/-- A due PACE frame goes out with the update's own need (R90; log 15). -/
theorem paceCheck_sends (open_ : s.drive.permanent = false) (sends : sendsPace s.control.axisState = true)
    (due : paceDue s.pace = true) : paceCheck s =
      { s with bus := { s.bus with paceSlot := some (paceFrameOf s.pace.ownNeed s),
                                   inHand := noteReplaced .pace s.bus.inHand },
               pace := { s.pace with lastNeedSent := some s.pace.ownNeed, interval := some 0 } } := by
  rw [paceCheck, sends, due, Bool.and_self, if_pos rfl, sendPace, open_]
  rfl

end Sys2Proof.Machine
end

section
/-! ## An arrival's laws (R13 to R20)

An arrival rewrites the run, sets the live position and the weight target, queues PACE frames, and changes the axis
state at most once. -/

namespace Sys2Proof.Machine

/-- What an arrival does before it changes the axis state keeps `P`, and from `P` it comes to `Q`. -/
structure LedByArrivals (P Q : State → Prop) : Prop where
  edit : ∀ s run live weightTarget position, P s →
    P { s with control := { s.control with run := run }, live := live,
               blend := { s.blend with weightTarget := weightTarget, live := position } }
  told : ∀ s, P s → P (queuePace s)
  enters : ∀ s new, new ≠ .halted → P s → Q (enterState new s)
  stays : ∀ s, P s → Q s

namespace LedByArrivals

variable {P Q : State → Prop} {s : State}

theorem beginSegment (K : LedByArrivals P Q) (g : Segment) (h : P s) : Q (beginSegment g s) := by
  have edited : P (onSegment (fun _ => g) s) := K.edit s _ _ _ _ h
  unfold Machine.beginSegment
  dsimp only
  split
  · exact K.enters _ _ nofun edited
  · exact K.stays _ (K.told _ edited)

theorem waitAt (K : LedByArrivals P Q) (w : WaitPoint) (h : P s) : Q (waitAt w s) :=
  K.enters _ _ nofun (K.edit s _ _ _ _ h)

theorem stepEnd (K : LedByArrivals P Q) (m : Mark) (h : P s) : Q (stepEnd m s) := by
  unfold Machine.stepEnd
  split
  · exact K.stays _ (K.edit s _ _ _ _ h)
  · split
    · exact K.waitAt _ h
    · split
      · exact K.enters _ .releasing nofun (K.edit s _ _ _ _ h)
      · exact K.enters _ .live nofun (K.edit s _ _ _ _ h)

theorem stepNext (K : LedByArrivals P Q) (m : Mark) (h : P s) : Q (stepNext m s) := by
  unfold Machine.stepNext
  split
  · exact K.beginSegment _ h
  · exact K.stepEnd m h

theorem stepLoop (K : LedByArrivals P Q) (n : MarkNo) (m : Mark) (h : P s) : Q (stepLoop n m s) := by
  unfold Machine.stepLoop
  split
  · dsimp only
    split
    · exact K.beginSegment _ (K.edit s _ _ _ _ h)
    · exact K.stepNext m (K.edit s _ _ _ _ h)
  · exact K.stepNext m h

theorem stepStop (K : LedByArrivals P Q) (n : MarkNo) (m : Mark) (h : P s) : Q (stepStop n m s) := by
  unfold Machine.stepStop
  split
  · exact K.waitAt _ h
  · exact K.stepLoop n m h

theorem stepDwell (K : LedByArrivals P Q) (n : MarkNo) (m : Mark) (served : Bool) (h : P s) :
    Q (stepDwell n m served s) := by
  unfold Machine.stepDwell
  split
  · exact K.stepStop n m h
  · have edited : P (onSegment (fun g => { g with dwellServed := true }) s) := K.edit s _ _ _ _ h
    dsimp only
    split
    · exact K.beginSegment _ edited
    · exact K.stepStop n m edited

theorem handBack (K : LedByArrivals P Q) (h : P s) : Q (handBack s) := by
  unfold Machine.handBack
  split
  · exact K.stays _ h
  · split
    · exact K.stays _ h
    · rename_i r _ _ g _
      have back : P (queuePace (withRun { r with segment := g, heldAside := none } s)) :=
        K.told _ (K.edit s _ _ _ _ h)
      dsimp only
      split
      · exact K.stays _ back
      · split
        · exact K.stays _ back
        · split
          · exact K.stepLoop _ _ (K.edit _ _ _ _ _ back)
          · exact K.waitAt _ back
        · exact K.stepEnd _ back

theorem takeArrival (K : LedByArrivals P Q) (h : P s) : Q (takeArrival s) := by
  unfold Machine.takeArrival
  split
  · exact K.stays _ h
  · dsimp only
    split
    · exact K.handBack h
    · exact K.stepDwell _ _ _ h

end LedByArrivals

end Sys2Proof.Machine
end

section
/-! ## The pace unit over an update (R74, R87 to R90)

The path stage keeps the figures of the pace work with the axis state. After it only the PACE check touches the pace
unit, but for a change into a state that drops its figures. -/

namespace Sys2Proof.Machine

/-! ### The figures of the path stage -/

/-- The axis state and the figures of the pace unit that only an update sets, but for a change of state. -/
def paceFigures (s : State) : AxisState × Nat × Nat × List Addr :=
  (s.control.axisState, s.pace.target, s.pace.applied, s.pace.counted)

variable {s : State}

theorem sendsPace_of_hasRun {st : AxisState} (moves : hasRun st = true) : sendsPace st = true :=
  sendsPace_iff.mpr (.inr (hasRun_iff.mp moves))

/-- An arrival that leaves a node with a run in its state leaves it its figures (R87). -/
theorem paceFigures_takeArrival (moves : hasRun s.control.axisState = true)
    (stands : (takeArrival s).control.axisState = s.control.axisState) :
    paceFigures (takeArrival s) = paceFigures s := by
  have K : LedByArrivals (fun t => paceFigures t = paceFigures s)
      (fun t => t.control.axisState = s.control.axisState → paceFigures t = paceFigures s) :=
    { edit := fun t _ _ _ _ same => same
      told := fun t same => by rw [← same]; simp [paceFigures]
      enters := fun t new _ same entered => by
        have state : t.control.axisState = s.control.axisState := congrArg Prod.fst same
        rcases enterState_cases new t with changed | ⟨-, -, halted⟩
        · rw [changed] at entered ⊢
          have back : new = s.control.axisState := by simpa using entered
          rw [← same]
          simp [paceFigures, back, state, sendsPace_of_hasRun moves]
        · rw [halted, haltNode_control] at entered
          rw [← entered] at moves
          exact absurd moves nofun
      stays := fun _ same _ => same }
  exact K.takeArrival (s := s) rfl stands

/-- The path stage moves the run along, and may take an arrival of it, in a state with a run (R56, R58). -/
theorem pathStage_cases (c : Configuration) (s : State) : (pathStage c s).1 = s ∨
    (hasRun s.control.axisState = true ∧ ∃ r, (pathStage c s).1 = withRun r s ∨
      (pathStage c s).1 = takeArrival (withRun r s)) := by
  have advances (r : RunContext) : ∃ r', (advancePath c r s).1 = withRun r' s ∨
      (advancePath c r s).1 = takeArrival (withRun r' s) := by
    unfold advancePath
    dsimp only
    split
    · exact ⟨_, .inr rfl⟩
    · exact ⟨_, .inl rfl⟩
  unfold pathStage
  split
  · exact .inl rfl
  · split
    · rename_i state; exact .inr ⟨by rw [state]; rfl, advances _⟩
    · rename_i state; exact .inr ⟨by rw [state]; rfl, advances _⟩
    · exact .inl rfl
    · rename_i state
      split
      · exact .inl rfl
      · exact .inr ⟨by rw [state]; rfl, advances _⟩
    · exact .inl rfl

theorem steady_pathStage (c : Configuration) (s : State) : steady (pathStage c s).1 = steady s := by
  rcases pathStage_cases c s with same | ⟨-, r, moved | arrived⟩
  · rw [same]
  · rw [moved]; rfl
  · rw [arrived, steady_takeArrival]; rfl

theorem paceFigures_pathStage (c : Configuration) (s : State)
    (stands : (pathStage c s).1.control.axisState = s.control.axisState) :
    paceFigures (pathStage c s).1 = paceFigures s := by
  rcases pathStage_cases c s with same | ⟨moves, r, moved | arrived⟩
  · rw [same]
  · rw [moved]; rfl
  · rw [arrived] at stands ⊢
    exact paceFigures_takeArrival (s := withRun r s) moves stands

/-! ### The pace unit after the path stage -/

/-- What the rest of an update leaves, or leaves behind with the axis state. -/
structure Paced where
  axisState : AxisState
  pace : PaceUnit
  paceSlot : Option PaceFrame

/-- A state's part of that. -/
def paced (s : State) : Paced := { axisState := s.control.axisState, pace := s.pace, paceSlot := s.bus.paceSlot }

/-- Nothing has changed, or the node has left its state for one of some others, with the figures that stand in every
state and the PACE slot as they were. -/
def StandsOrLeaves (others : List AxisState) (before after : Paced) : Prop :=
  after = before ∨ (after.axisState ≠ before.axisState ∧ after.axisState ∈ others ∧
    after.pace.veff = before.pace.veff ∧ after.pace.dialPace = before.pace.dialPace ∧
    after.paceSlot = before.paceSlot)

/-- A change into a state that sends no PACE frames queues none (R89). -/
theorem changeState_paceSlot {new : AxisState} (silent : sendsPace new = false) (changes : s.control.axisState ≠ new) :
    (changeState new s).bus.paceSlot = s.bus.paceSlot := by
  rw [changeState_no_run changes silent, queueState_bus_paceSlot]
  rfl

/-- Into a state that sends no PACE frames (R74, R89). -/
theorem changeState_leaves {new : AxisState} {others : List AxisState} (silent : sendsPace new = false)
    (listed : new ∈ others) (changes : s.control.axisState ≠ new) :
    StandsOrLeaves others (paced s) (paced (changeState new s)) := by
  refine .inr ⟨?_, ?_, changeState_pace_veff new s, changeState_pace_dialPace new s,
    changeState_paceSlot silent changes⟩
  · simpa [paced] using changes.symm
  · simpa [paced] using listed

theorem paced_reportInFault (cause : FaultCause) (s : State) : paced (reportInFault cause s) = paced s := by
  unfold reportInFault
  split
  · split
    · rfl
    · rfl
    · rfl
    · split <;> rfl
    · rfl
    · rfl
  all_goals rfl

variable {before : Paced}

theorem StandsOrLeaves.kept {others : List AxisState} {after : Paced} (h : StandsOrLeaves others before after) :
    after.pace.veff = before.pace.veff ∧ after.pace.dialPace = before.pace.dialPace ∧
      after.paceSlot = before.paceSlot := by
  rcases h with rfl | ⟨-, -, kept⟩
  · exact ⟨rfl, rfl, rfl⟩
  · exact kept

theorem StandsOrLeaves.stands {others : List AxisState} {after : Paced} (h : StandsOrLeaves others before after)
    (same : after.axisState = before.axisState) : after = before :=
  h.resolve_right fun ⟨left, _⟩ => left same

theorem enterFault_leaves (cause : FaultCause) (other : s.control.axisState ≠ .fault) :
    StandsOrLeaves [.fault] (paced s) (paced (enterFault cause s)) := by
  have told (u : State) : paced (queueHalt cause u) = paced u := by simp [paced]
  rw [enterFault, told]
  exact changeState_leaves rfl (List.mem_singleton_self _) other

/-- A fault report makes at most one change of state, into FAULT (R34, R141). -/
theorem reportFault_leaves (cause : FaultCause) (h : StandsOrLeaves [.fault] before (paced s)) :
    StandsOrLeaves [.fault] before (paced (reportFault cause s)) := by
  unfold reportFault
  split
  · exact h
  · exact h
  · rwa [paced_reportInFault]
  · rename_i other
    rcases h with same | ⟨-, listed, -⟩
    · rw [← same]
      exact enterFault_leaves cause other
    · exact absurd (List.mem_singleton.mp listed) other

theorem reportDrive_leaves (cause : FaultCause) (h : StandsOrLeaves [.fault] before (paced s)) :
    StandsOrLeaves [.fault] before (paced (reportDrive cause s)) := by
  unfold reportDrive
  split
  · exact reportFault_leaves cause h
  · exact h

/-- The drive exchange of an update may fault the node (R137, R138). -/
theorem exchangeStage_leaves (c : Configuration) (pair : Option (Int × Int)) (s : State) :
    StandsOrLeaves [.fault] (paced s) (paced (exchangeStage c pair s)) := by
  have sent (u : State) : paced (sendRecord pair u) = paced u := by
    obtain ⟨_, _, sends⟩ := sendRecord_opens pair u
    rw [sends]
    rfl
  rw [exchangeStage, sent]
  have counted (d : DriveLink) : StandsOrLeaves [.fault] (paced s) (paced { s with drive := d }) := .inl rfl
  unfold closeExchange
  dsimp only
  split
  · refine reportDrive_leaves _ ?_
    split
    · exact reportDrive_leaves _ (counted _)
    · exact counted _
  · split
    · exact reportDrive_leaves _ (counted _)
    · exact counted _

/-- RELEASING ends in LIVE, or halted by the stop input (R31, R139). -/
theorem enterLive_leaves (releasing : s.control.axisState = .releasing) :
    StandsOrLeaves [.fault, .live, .halted] (paced s) (paced (enterState .live s)) := by
  have away (new : AxisState) (other : new ≠ .releasing) : s.control.axisState ≠ new := by
    rw [releasing]; exact other.symm
  rcases enterState_cases .live s with changed | ⟨-, -, stopped⟩
  · rw [changed]
    exact changeState_leaves rfl (by simp) (away _ nofun)
  · have live : (changeState .live s).control.axisState = .live :=
      congrArg RunControl.axisState (changeState_control .live s)
    have halted : (haltNode .stopInput (changeState .live s)).control.axisState = .halted :=
      congrArg RunControl.axisState (haltNode_control .stopInput _)
    have slot : (haltNode .stopInput (changeState .live s)).bus.paceSlot = (changeState .live s).bus.paceSlot :=
      changeState_paceSlot rfl (by rw [live]; nofun)
    rw [stopped]
    exact .inr ⟨by rw [paced, paced, halted, releasing]; nofun, by rw [paced, halted]; simp,
      (haltNode_pace_veff _ _).trans (changeState_pace_veff _ _),
      (haltNode_pace_dialPace _ _).trans (changeState_pace_dialPace _ _),
      slot.trans (changeState_paceSlot rfl (away _ nofun))⟩

/-- A halt ends in LIVE with the stop input active (R33). -/
theorem enterLiveAt_leaves (x : Int) (halted : s.control.axisState = .halted) (active : s.stopInput = true) :
    StandsOrLeaves [.fault, .live, .halted] (paced s) (paced (enterLiveAt x s)) := by
  have entered : enterLiveAt x s = changeState .live (setRecentre { s with blend.live := some x }) :=
    enterState_active .live _ active
  rw [entered]
  exact changeState_leaves rfl (by simp) (by rw [setRecentre_control, halted]; nofun)

/-- A release ends in LIVE, or halted by the stop input; a halt ends in LIVE with the stop input active alone
(R31, R33, R139). -/
theorem takeReports_leaves (m : MixResult) (h : StandsOrLeaves [.fault] before (paced s)) :
    StandsOrLeaves [.fault, .live, .halted] before (paced (takeReports m s)) := by
  have stays : StandsOrLeaves [.fault, .live, .halted] before (paced s) :=
    h.imp id fun ⟨left, listed, figures⟩ => ⟨left, List.mem_cons.mpr (.inl (List.mem_singleton.mp listed)), figures⟩
  have stood (other : s.control.axisState ≠ .fault) : paced s = before :=
    h.resolve_right fun ⟨_, listed, _⟩ => other (List.mem_singleton.mp listed)
  unfold takeReports
  split
  · rename_i halted
    split
    · rename_i ended
      rw [Bool.and_eq_true] at ended
      rw [← stood (by rw [halted]; nofun)]
      exact enterLiveAt_leaves _ halted ended.2
    · exact stays
  · rename_i releasing
    split
    · rw [← stood (by rw [releasing]; nofun)]
      exact enterLive_leaves releasing
    · exact stays
  · exact stays

/-- After the PACE check an update leaves the pace unit alone, or the node leaves its state for FAULT, LIVE or HALTED
(R74, R112). -/
theorem runUpdate_leaves (c : Configuration) (s : State) :
    StandsOrLeaves [.fault, .live, .halted] (paced (paceCheck (pathStage c (paceWork c s)).1))
      (paced (runUpdate c s)) := by
  set checked := paceCheck (pathStage c (paceWork c s)).1 with isChecked
  set m := mixStage c (pathStage c (paceWork c s)).2 (liveStage c checked).2 (liveStage c checked).1 with mixed
  have ran : runUpdate c s = takeReports m (exchangeStage c m.pair m.state) := rfl
  have same : paced m.state = paced checked := by
    obtain ⟨_, _, _, lived⟩ := liveStage_frame c checked
    rw [mixed, mixStage_state, lived]
    rfl
  rw [ran, ← same]
  exact takeReports_leaves m (exchangeStage_leaves c m.pair m.state)

theorem paceFigures_paceCheck (s : State) : paceFigures (paceCheck s) = paceFigures s := by
  obtain ⟨_, _, _, checked⟩ := paceCheck_frame s
  rw [checked]
  rfl

/-- An update that ends in the state it began in ends with the figures of its pace work (R87). -/
theorem paceFigures_runUpdate (c : Configuration) (s : State)
    (stands : (runUpdate c s).control.axisState = s.control.axisState) :
    paceFigures (runUpdate c s) = paceFigures (paceWork c s) := by
  have checked := paceFigures_paceCheck (pathStage c (paceWork c s)).1
  rcases runUpdate_leaves c s with same | ⟨left, listed, -⟩
  · have figures : paceFigures (runUpdate c s) = paceFigures (pathStage c (paceWork c s)).1 :=
      (congrArg (fun x : Paced => (x.axisState, x.pace.target, x.pace.applied, x.pace.counted)) same).trans checked
    exact figures.trans (paceFigures_pathStage c _ ((congrArg Prod.fst figures).symm.trans stands))
  · have still : hasRun s.control.axisState = false := by
      rw [← stands]
      revert listed
      simp only [paced]
      cases (runUpdate c s).control.axisState <;> simp [hasRun]
    rw [pathStage_without_run (s := paceWork c s) still] at checked left
    exact absurd (stands.trans (congrArg Prod.fst checked).symm) left

/-- Every way of an update leaves Veff and the dial pace as its pace work set them (R87). -/
theorem runUpdate_veff_dialPace (c : Configuration) (s : State) :
    (runUpdate c s).pace.veff = (paceWork c s).pace.veff ∧
      (runUpdate c s).pace.dialPace = (paceWork c s).pace.dialPace := by
  obtain ⟨veff, dialPace, -⟩ := (runUpdate_leaves c s).kept
  obtain ⟨_, _, _, checked⟩ := paceCheck_frame (pathStage c (paceWork c s)).1
  have path := steady_pathStage c (paceWork c s)
  exact ⟨veff.trans ((congrArg (·.pace.veff) checked).trans (congrArg Steady.veff path)),
    dialPace.trans ((congrArg (·.pace.dialPace) checked).trans (congrArg Steady.dialPace path))⟩

/-! ### The PACE frame of an update -/

theorem paceFrameOf_shows (need : Nat) (s : State) :
    let f := paceFrameOf need s
    (∀ cue, ownCue s.control = some cue → f.cue = cue) ∧
    (∀ a, s.control.axisState = .armed → s.control.arm = some a → f.destination = a.first) ∧
    (∀ r, s.control.axisState ≠ .armed → s.control.run = some r → f.destination = r.segment.destination) := by
  refine ⟨fun cue own => ?_, fun a => paceDestination_armed, fun r => paceDestination_run⟩
  simp only [paceFrameOf, own, Option.getD_some]

/-- A PACE frame that is due after the path stage goes out, and restarts the interval (R90; log 15). -/
theorem runUpdate_sends {c : Configuration} {path : State} (staged : (pathStage c (paceWork c s)).1 = path)
    (open_ : path.drive.permanent = false) (sends : sendsPace path.control.axisState = true)
    (due : paceDue path.pace = true) :
    (runUpdate c s).bus.paceSlot = some (paceFrameOf path.pace.ownNeed path) ∧
      ((runUpdate c s).control.axisState = path.control.axisState →
        (runUpdate c s).pace.lastNeedSent = some path.pace.ownNeed ∧ (runUpdate c s).pace.interval = some 0) := by
  have left := runUpdate_leaves c s
  rw [staged, paceCheck_sends open_ sends due] at left
  refine ⟨left.kept.2.2, fun stands => ?_⟩
  have stood := left.stands stands
  exact ⟨congrArg (·.pace.lastNeedSent) stood, congrArg (·.pace.interval) stood⟩

/-- Without one the PACE slot stands, and the pace unit with the state (R90). -/
theorem runUpdate_sends_nothing {c : Configuration} {path : State} (staged : (pathStage c (paceWork c s)).1 = path)
    (nothing : paceCheck path = path) :
    (runUpdate c s).bus.paceSlot = path.bus.paceSlot ∧
      ((runUpdate c s).control.axisState = path.control.axisState → (runUpdate c s).pace = path.pace) := by
  have left := runUpdate_leaves c s
  rw [staged, nothing] at left
  exact ⟨left.kept.2.2, fun stands => congrArg (·.pace) (left.stands stands)⟩

/-- An UPDATE of a running node with a configuration, while its timer runs (R112). -/
theorem exec_update {c : Configuration} {n : Nat} (running : s.startup.phase = .running)
    (config : s.startup.config = some c) (timer : s.blend.timer = some n) :
    exec .update s = .next (runUpdate c { s with blend := { s.blend with timer := some 0 } }) := by
  change Host.Outcome.next (whenRunning update s) = _
  rw [whenRunning_running running, update, config, timer]

/-- Settles O17: the figures are those of the pace work, which the path stage keeps with the state; the PACE check then
sends or not, and what follows leaves the pace unit or the state. -/
theorem paceHeadsForTheLeastNeed : Obligations.PaceHeadsForTheLeastNeed := by
  intro c s T st p needOf fresh
  have known (a : Addr) (need : Nat) : (a, need) ∈ freshNeeds (ownCue s.control) s.peers ↔ fresh a need :=
    mem_freshNeeds_iff
  refine ⟨rfl, fun r moving run => ownNeedOf_moving moving run, fun a m h armed arm mark history =>
    ownNeedOf_armed armed arm mark history, ownNeedOf_standing, ownNeedOf_silent, dialPaceNow_eq s.live,
    fun moving => ?_, fun h h' => paceTargetOf_elsewhere h h' _ _ _, slewPace_up, slewPace_down, fun there => ?_,
    fun moves => ?_, fun still => ?_, fun n running config timer => ?_⟩
  · have least := paceTargetOf_isLeast moving p.ownNeed p.dialPace (freshNeeds (ownCue s.control) s.peers)
    simp only [known] at least
    exact least
  · exact (congrArg (slewPace T · p.target) there).trans slewPace_there
  · have joined : p.counted = joinCounted s.pace.counted (freshNeeds (ownCue s.control) s.peers) :=
      if_pos (hasRun_iff.mpr moves)
    rw [joined]
    exact ⟨fun a => by simp only [mem_joinCounted_iff, known], joinCounted_nodup⟩
  · exact if_neg (by rw [still]; nofun)
  · intro path q st'
    have kept : steady path = steady (paceWork c { s with blend := { s.blend with timer := some 0 } }) :=
      steady_pathStage c _
    obtain ⟨veff, dialPace⟩ := runUpdate_veff_dialPace c { s with blend := { s.blend with timer := some 0 } }
    refine ⟨_, exec_update running config timer, veff, dialPace, fun stands => ?_,
      fun silent => (runUpdate_sends_nothing rfl (paceCheck_silent silent)).1, fun sent open_ sends last => ?_⟩
    · have figures := paceFigures_runUpdate c _ stands
      simp only [paceFigures, Prod.mk.injEq] at figures
      exact figures.2
    · split
      · rename_i due
        obtain ⟨slot, restarts⟩ := runUpdate_sends (path := path) rfl
          ((congrArg (·.drive.permanent) kept).trans open_) sends ((paceDue_iff last).mpr due)
        obtain ⟨cue, armed, run⟩ := paceFrameOf_shows q.ownNeed path
        exact ⟨⟨_, slot, rfl, cue, rfl, rfl, rfl, rfl, congrArg Steady.limited kept, armed, run⟩, restarts⟩
      · rename_i early
        obtain ⟨slot, stands⟩ := runUpdate_sends_nothing (path := path) rfl
          (paceCheck_early (Bool.eq_false_iff.mpr ((paceDue_iff last).not.mpr early)))
        exact ⟨slot, fun same => by rw [stands same]; exact ⟨last, rfl⟩⟩

end Sys2Proof.Machine
end

section
/-! ## Live demand (R97 to R108, R117, R118)

A DEMAND frame is shaped once, when it is taken; every update then adds the live increment to the live position or the
trim. -/

namespace Sys2Proof.Machine

/-! ### Where the live increment goes (R105, R117, R118) -/

section
variable {c : RunControl}

theorem incrementTo_trim (mixes : c.axisState = .running ∨ c.axisState = .holding ∨ c.axisState = .waiting)
    (follow : ∃ r, c.run = some r ∧ r.authority = .follow) : incrementTo c = .trim := by
  obtain ⟨r, run, follow⟩ := follow
  rcases mixes with h | h | h <;> simp only [incrementTo, h, run, follow]

theorem incrementTo_livePosition (moves : c.axisState = .live ∨ c.axisState = .armed ∨ c.axisState = .releasing ∨
      (c.axisState = .running ∨ c.axisState = .holding ∨ c.axisState = .waiting) ∧
        ∃ r, c.run = some r ∧ r.authority = .share) : incrementTo c = .livePosition := by
  rcases moves with h | h | h | ⟨h | h | h, r, run, share⟩
  iterate 3 simp only [incrementTo, h]
  iterate 3 simp only [incrementTo, h, run, share]

theorem incrementTo_nowhere (still : c.axisState = .setup ∨ c.axisState = .waking ∨ c.axisState = .halted ∨
    c.axisState = .fault ∨ c.axisState = .parked) : incrementTo c = .nowhere := by
  rcases still with h | h | h | h | h <;> simp only [incrementTo, h]

end

section
variable {c : Configuration} {s : State}

theorem liveStage_livePosition {x : Int} (goes : incrementTo s.control = .livePosition)
    (live : s.blend.live = some x) :
    let inc := liveIncrement (periodMs c.period) s.live
    let new := clampInt c.limitLow c.limitHigh (x + inc.1)
    liveStage c s = ({ s with live := { s.live with remainder := inc.2 }, blend := { s.blend with live := some new } },
      new != x + inc.1) := by
  simp only [liveStage, goes, live]

theorem liveStage_toTrim (goes : incrementTo s.control = .trim) :
    let inc := liveIncrement (periodMs c.period) s.live
    let new := clampAbs c.trimMax (s.blend.trim + inc.1)
    liveStage c s = ({ s with live := { s.live with remainder := inc.2 }, blend := { s.blend with trim := new } },
      new != s.blend.trim + inc.1) := by
  simp only [liveStage, goes]

theorem liveStage_nowhere (goes : incrementTo s.control = .nowhere) : liveStage c s = (s, false) := by
  simp only [liveStage, goes]

end

/-- What truncation leaves over has the dividend's sign. -/
theorem tmod_mul_self_nonneg (n m : Int) : 0 ≤ n.tmod m * n := by
  rcases le_total 0 n with up | down
  · exact mul_nonneg (Int.tmod_nonneg m up) up
  · have mirrored := Int.tmod_nonneg m (neg_nonneg.mpr down)
    rw [Int.neg_tmod] at mirrored
    exact mul_nonneg_of_nonpos_of_nonpos (neg_nonneg.mp mirrored) down

/-- Settles O20: the state and the authority say where the increment goes, and the live stage adds it there. -/
theorem liveIncrementGoesWhereItShould : Obligations.LiveIncrementGoesWhereItShould := by
  intro c s sum st mixing
  have small : (sum.tmod 1000).natAbs < 1000 := by
    rw [Int.natAbs_tmod]
    exact Nat.mod_lt _ (by norm_num)
  refine ⟨sum.tdiv 1000, sum.tmod 1000, (Int.mul_tdiv_add_tmod sum 1000).symm, Nat.le_of_lt_succ small,
    tmod_mul_self_nonneg sum 1000, fun moves x live => ?_, fun mixes follow => ?_, fun still => ?_⟩
  · rw [liveStage_livePosition (incrementTo_livePosition moves) live]
    exact ⟨rfl, bne_iff_ne⟩
  · rw [liveStage_toTrim (incrementTo_trim mixes follow)]
    exact ⟨rfl, bne_iff_ne⟩
  · exact liveStage_nowhere (incrementTo_nowhere still)

/-! ### The values a frame carries (R97, R98) -/

/-- The three values stand for the base channel and the two above it. -/
theorem demandValueFor_eq (p : DemandPayload) (ch : ChannelNo) : demandValueFor p ch =
    if p.base.val ≤ ch.val then [p.value0, p.value1, p.value2][ch.val - p.base.val]?.map BitVec.toInt else none := by
  by_cases above : p.base.val ≤ ch.val
  · obtain ⟨k, offset⟩ := Nat.exists_eq_add_of_le above
    rw [if_pos above, demandValueFor, offset, Nat.add_sub_cancel_left]
    match k with
    | 0 => simp
    | 1 => simp
    | 2 => simp
    | k + 3 => simp
  · rw [if_neg above, demandValueFor, if_neg (by omega), if_neg (by omega), if_neg (by omega)]

/-! ### Shaping (R101 to R104) -/

theorem shapeDeadband_inside {deadband : Nat} {x : Int} (inside : |x| ≤ deadband) : shapeDeadband deadband x = 0 := by
  rw [Int.abs_eq_natAbs] at inside
  exact if_pos (by omega)

/-- Beyond the deadband, the rest of full scale is stretched over all of it, rounded toward zero, with the sign kept. -/
theorem shapeDeadband_beyond {deadband : Nat} {x : Int} (beyond : deadband < |x|) (full : |x| ≤ 2047) :
    |shapeDeadband deadband x| = ⌊((|x| - deadband) * 2047 : ℚ) / (2047 - deadband)⌋ ∧
      0 ≤ shapeDeadband deadband x * x := by
  rw [Int.abs_eq_natAbs] at beyond full
  have moved : x ≠ 0 := by omega
  have shaped : shapeDeadband deadband x = x.sign * ((x.natAbs - deadband) * 2047 / (2047 - deadband) : Nat) :=
    if_neg (by omega)
  rw [shaped]
  constructor
  · have floor := Rat.floor_natCast_div_natCast ((x.natAbs - deadband) * 2047) (2047 - deadband)
    rw [Nat.cast_mul, Nat.cast_sub (by omega), Nat.cast_sub (by omega), Nat.cast_natAbs, Nat.cast_ofNat] at floor
    rw [abs_mul, Int.abs_sign_of_ne_zero moved, one_mul, Nat.abs_cast, floor, Int.natCast_ediv]
  · rw [mul_right_comm, Int.sign_mul_self_eq_natAbs]
    positivity

/-- An integer of a quotient's sign, no greater in size and less than 1 from it, is it rounded toward zero. -/
theorem eq_tdiv_of_truncates {n out : Int} {m : Nat} (sign : 0 ≤ out * n) (le : |(out : ℚ)| ≤ |(n / m : ℚ)|)
    (lt : |(n / m : ℚ)| < |(out : ℚ)| + 1) : out = n.tdiv m := by
  have size : |out| = |n| / m := by
    rw [← Rat.floor_intCast_div_natCast, eq_comm, Int.floor_eq_iff]
    push_cast
    rw [abs_div, Nat.abs_cast] at le lt
    exact ⟨le, lt⟩
  rcases lt_trichotomy n 0 with negative | rfl | positive
  · rw [abs_of_neg negative, abs_of_nonpos (nonpos_of_mul_nonneg_left sign negative)] at size
    rw [← neg_neg n, Int.neg_tdiv, Int.tdiv_eq_ediv_of_nonneg (by omega), ← size, neg_neg]
  · simpa using size
  · rw [abs_of_pos positive, abs_of_nonneg (nonneg_of_mul_nonneg_left sign positive)] at size
    rw [size, Int.tdiv_eq_ediv_of_nonneg positive.le]

/-- The shaped output has the deflection's sign, so that its one rounding toward zero is known by its size. -/
theorem eq_shapeExpo {expo : Nat} {d out : Int} {x : ℚ} (within : expo ≤ 256)
    (value : x = (d * (256 - expo) + expo * (d : ℚ) ^ 3 / 2047 ^ 2) / 256) (sign : 0 ≤ out * d)
    (le : |(out : ℚ)| ≤ |x|) (lt : |x| < |(out : ℚ)| + 1) : out = shapeExpo expo d := by
  have quotient : x = ((d * (256 - expo) * 2047 ^ 2 + expo * d ^ 3 : Int) : ℚ) / (256 * 2047 ^ 2 : Nat) := by
    rw [value]
    push_cast
    ring
  have gain : (0 : Int) ≤ (256 - expo) * 2047 ^ 2 + expo * d ^ 2 := by
    have : (0 : Int) ≤ 256 - expo := by omega
    positivity
  have same : out * (d * (256 - expo) * 2047 ^ 2 + expo * d ^ 3) =
      out * d * ((256 - expo) * 2047 ^ 2 + expo * d ^ 2) := by ring
  rw [quotient] at le lt
  exact eq_tdiv_of_truncates (same ▸ mul_nonneg sign gain) le lt

theorem velocityOf_eq (liveRate : Nat) (out : Int) :
    velocityOf liveRate out = roundHalfAway (out * liveRate / 2047) := by
  rw [velocityOf, roundDiv_eq_roundHalfAway _ (by norm_num)]
  push_cast
  rfl

theorem abs_clampAbs_le (bound : Nat) (x : Int) : |clampAbs bound x| ≤ bound := by
  rw [Int.abs_eq_natAbs]
  exact_mod_cast clampInt_natAbs_le bound x

/-! ### What a DEMAND frame leaves (R97, R98, R100, R107, R108) -/

section
variable {sender : Addr} {p : DemandPayload} {c : Configuration} {s : State}

theorem grabCondition_iff (config : s.startup.config = some c) : grabCondition s = true ↔
    (s.control.axisState = .running ∨ s.control.axisState = .holding) ∧
      (∃ r, s.control.run = some r ∧ r.authority = .follow) ∧ 0 < c.grabLevel ∧
      (c.grabLevel : Int) ≤ |s.live.deflection| ∧ s.live.recentre = false := by
  rw [Int.abs_eq_natAbs, Nat.cast_le]
  simp [grabCondition, config, and_assoc, Option.any_eq_true]

/-- A record after a frame: the value it takes is stored, and without one it stands (R97, R98). -/
def recordAfter (sender : Addr) (p : DemandPayload) (r : ChannelRecord) : ChannelRecord :=
  (takenValue sender p r).elim r fun v => storeValue sender p.deadman v r

theorem dialPart_eq (sender : Addr) (p : DemandPayload) (s : State) :
    dialPart sender p s = { s with live := { s.live with dial := s.live.dial.map (recordAfter sender p) } } := by
  rcases dial : s.live.dial with _ | r
  · simp only [dialPart, dial, Option.map_none]
    rw [← dial]
  · rcases takes : takenValue sender p r with _ | v
    · simp only [dialPart, recordAfter, dial, takes, Option.map_some, Option.elim]
      rw [← dial]
    · simp only [dialPart, recordAfter, dial, takes, Option.map_some, Option.elim]

/-- The value the demand record takes from a frame, with the record (R97, R98). -/
def demandTaken (sender : Addr) (p : DemandPayload) (s : State) : Option (ChannelRecord × Int) :=
  s.live.demand.bind fun r => (takenValue sender p r).map fun v => (r, v)

theorem demandPart_kept (kept : demandTaken sender p s = none) : demandPart sender p s = s := by
  unfold demandPart
  split
  · rename_i r _ demand
    rw [demandTaken, demand] at kept
    rw [Option.map_eq_none_iff.mp kept]
  · rfl

theorem demandPart_taken {r : ChannelRecord} {v : Int} (config : s.startup.config = some c)
    (taken : demandTaken sender p s = some (r, v)) :
    demandPart sender p s = takeDemand c sender p.deadman v r s := by
  obtain ⟨r', demand, mapped⟩ := Option.bind_eq_some_iff.mp taken
  obtain ⟨v', takes, same⟩ := Option.map_eq_some_iff.mp mapped
  obtain ⟨rfl, rfl⟩ := Prod.mk.inj same
  simp only [demandPart, config, demand, takes]

/-- The demand record's part of a frame changes neither the dial record nor the remainder, and nothing of another
unit (R97, R105). -/
theorem demandPart_frame (config : s.startup.config = some c) :
    demandPart sender p s = { s with live := (demandPart sender p s).live } ∧
      (demandPart sender p s).live.dial = s.live.dial ∧
      (demandPart sender p s).live.remainder = s.live.remainder := by
  rcases taken : demandTaken sender p s with _ | ⟨r, v⟩
  · rw [demandPart_kept taken]
    exact ⟨rfl, rfl, rfl⟩
  · rw [demandPart_taken config taken]
    exact ⟨rfl, rfl, rfl⟩

/-- A DEMAND frame of a station with an address changes the live demand unit alone (R97). -/
theorem takeDemandFrame_eq (addressed : sender ≠ 0) (config : s.startup.config = some c) :
    takeDemandFrame sender p s = { s with live := { (demandPart sender p s).live with
      dial := s.live.dial.map (recordAfter sender p) } } := by
  obtain ⟨frame, dial, -⟩ := demandPart_frame (sender := sender) (p := p) config
  rw [takeDemandFrame, if_neg addressed, dialPart_eq, dial]
  conv_lhs => rw [frame]

/-- A demand value is shaped at once by deadband, expo and live rate, under the interlock, and the grab timer follows
(R101 to R104, R107, R108). -/
theorem takeDemand_shapes (config : s.startup.config = some c) (deadman : Bool) (v : Int) (r : ChannelRecord) :
    let x := if deadman = true then max (-2047) (min v 2047) else 0
    let l := (takeDemand c sender deadman v r s).live
    (|x| ≤ c.deadband → l.deflection = 0) ∧
    (c.deadband < |x| →
      |l.deflection| = ⌊((|x| - c.deadband) * 2047 : ℚ) / (2047 - c.deadband)⌋ ∧ 0 ≤ l.deflection * x) ∧
    (∀ out, out = shapeExpo c.expo l.deflection →
      l.recentre = (s.live.recentre && !(deadman && out == 0)) ∧
      l.velocity = if s.live.recentre = true then 0 else roundHalfAway (out * c.liveRate / 2047)) ∧
    l.grabTimer =
      if (s.control.axisState = .running ∨ s.control.axisState = .holding) ∧
          (∃ r, s.control.run = some r ∧ r.authority = .follow) ∧ 0 < c.grabLevel ∧
          c.grabLevel ≤ |l.deflection| ∧ l.recentre = false
      then some (s.live.grabTimer.getD 0) else none := by
  intro x l
  have full : |x| ≤ 2047 := by
    cases deadman
    · exact (abs_zero (α := Int)).trans_le (by norm_num)
    · exact abs_clampAbs_le fullScale v
  have shaped : l.deflection = shapeDeadband c.deadband x := rfl
  refine ⟨fun inside => shaped.trans (shapeDeadband_inside inside), fun beyond => ?_, ?_, ?_⟩
  · rw [shaped]
    exact shapeDeadband_beyond beyond full
  · rintro out rfl
    refine ⟨rfl, ?_⟩
    rw [← velocityOf_eq]
    rfl
  · exact if_congr (grabCondition_iff config) rfl rfl

/-- A frame of a sender the node accepts is recorded, and then taken (R97, R147). -/
theorem exec_demandFrame (accepted : Accepts sender s) :
    exec (.demandFrame sender p) s = .next (takeDemandFrame sender p (heardFrom sender s)) :=
  congrArg _ (receive_accepts accepted _ _)

/-- Settles O40: each record takes its value or stands, and a taken demand value is shaped. -/
theorem demandFrameIsShaped : Obligations.DemandFrameIsShaped := by
  intro sender p s accepted
  rw [exec_demandFrame accepted]
  refine ⟨?_, fun noDemand noDial => ?_, fun c addressed config => ?_⟩
  · rintro rfl
    rfl
  · have kept : demandPart sender p (heardFrom sender s) = heardFrom sender s :=
      demandPart_kept (by simp [demandTaken, heardFrom, noDemand])
    have noDial : (heardFrom sender s).live.dial = none := by simpa [heardFrom] using noDial
    rw [takeDemandFrame, kept, dialPart, noDial]
    split <;> rfl
  · intro given taken stored
    have takes : taken = takenValue sender p := by
      funext r
      rw [takenValue, demandValueFor_eq]
    have stores : stored = fun r v => storeValue sender p.deadman v r := rfl
    clear_value taken stored
    subst takes stores
    rw [heardFrom_eq]
    generalize (heardFrom sender s).peers = peers
    set heard : State := { s with peers := peers }
    have config' : heard.startup.config = some c := config
    obtain ⟨-, -, remainder⟩ := demandPart_frame (sender := sender) (p := p) config'
    rw [takeDemandFrame_eq addressed config']
    refine ⟨_, rfl, rfl, remainder, ?_, ?_⟩
    · change s.live.dial.map (recordAfter sender p) = _
      rcases s.live.dial with _ | r
      · rfl
      · rw [Option.map_some, recordAfter]
        dsimp only
        rcases takenValue sender p r <;> rfl
    · change match demandTaken sender p heard with | none => _ | some (r, v) => _
      rcases taken : demandTaken sender p heard with _ | ⟨r, v⟩
      · rw [demandPart_kept taken]
      · rw [demandPart_taken config' taken]
        obtain ⟨inside, beyond, expo, grab⟩ := takeDemand_shapes config' p.deadman v r
        exact ⟨rfl, inside, beyond,
          fun out within ⟨sign, le, lt⟩ => expo out (eq_shapeExpo within rfl sign le lt), grab⟩

end

end Sys2Proof.Machine
end

section
/-! ## Fault reports, and the close of an exchange (R34, R132 to R141) -/

namespace Sys2Proof.Machine

variable {c : Configuration} {s : State}

/-! ### Fault reports (R34, R140, R141) -/

/-- What a fault report can do: nothing, in FAULT put a lost drive in a lesser cause's place or restart the condition of
LINK, and enter FAULT from the states that can (R34, R140, R141). -/
theorem reportFault_cases {Q : State → Prop} (cause : FaultCause) (nothing : Q s)
    (lost : cause = .driveLost → s.control.axisState = .fault →
      Q { s with drive := { s.drive with faultCause := some .driveLost, enable := false } })
    (link : s.control.axisState = .fault → ∀ awaited,
      Q { s with drive := { s.drive with linkIntact := false, linkAwaited := awaited } })
    (enters : Q (enterFault cause s)) : Q (reportFault cause s) := by
  unfold reportFault
  split
  · exact nothing
  · exact nothing
  · rename_i state
    unfold reportInFault
    split
    · split
      iterate 3 exact nothing
      · split
        · exact nothing
        · exact lost rfl state
      iterate 2 exact lost rfl state
    · exact link state _
    all_goals exact nothing
  · exact enters

theorem reportDrive_cases {Q : State → Prop} (cause : FaultCause) (nothing : Q s) (reported : Q (reportFault cause s)) :
    Q (reportDrive cause s) := by
  unfold reportDrive
  split
  · exact reported
  · exact nothing

theorem enterFault_drive (cause : FaultCause) (s : State) : (enterFault cause s).drive = { s.drive with
    faultCause := some cause, enable := s.drive.enable && !enableOffCause cause,
    linkIntact := if cause = .link then false else s.drive.linkIntact,
    linkAwaited := s.drive.linkAwaited || cause == .link } := by
  simp [enterFault, changeState, putState]

/-- The drive link but for what a fault changes: its cause, the enable output and the condition of LINK (R140). -/
def faultless (d : DriveLink) : DriveLink :=
  { d with faultCause := none, enable := false, linkIntact := false, linkAwaited := false }

theorem faultless_reportDrive (cause : FaultCause) (s : State) :
    faultless (reportDrive cause s).drive = faultless s.drive :=
  reportDrive_cases (Q := fun t => faultless t.drive = faultless s.drive) cause rfl
    (reportFault_cases (Q := fun t => faultless t.drive = faultless s.drive) cause rfl (fun _ _ => rfl)
      (fun _ _ => rfl) (by rw [enterFault_drive]; rfl))

/-- No drive check puts the enable output on (R135). -/
theorem reportDrive_enable_le (cause : FaultCause) (s : State) :
    (reportDrive cause s).drive.enable = true → s.drive.enable = true :=
  reportDrive_cases (Q := fun t => t.drive.enable = true → s.drive.enable = true) cause id
    (reportFault_cases (Q := fun t => t.drive.enable = true → s.drive.enable = true) cause id
      (fun _ _ on => nomatch on) (fun _ _ => id) fun on => by
        rw [enterFault_drive] at on
        exact (Bool.and_eq_true_iff.mp on).1)

/-- A following error leaves the enable output (R140). -/
theorem reportDrive_following_enable (s : State) : (reportDrive .following s).drive.enable = s.drive.enable :=
  reportDrive_cases (Q := fun t => t.drive.enable = s.drive.enable) .following rfl
    (reportFault_cases (Q := fun t => t.drive.enable = s.drive.enable) .following rfl nofun (fun _ _ => rfl) (by
      rw [enterFault_drive]
      exact Bool.and_true _))

/-! ### Closing the exchange (R134, R137, R138) -/

/-- The node with its exchange closed on the counts, before the checks look at them (R134). -/
def counted (c : Configuration) (s : State) : State :=
  { s with drive := { s.drive with
      missed := (closedCounts c s.drive).1, following := (closedCounts c s.drive).2, exchange := none } }

/-- The missed-feedback count comes to its limit (R137). -/
abbrev Lost (c : Configuration) (d : DriveLink) : Prop :=
  (closedCounts c d).1 = missedLimit ∧ d.missed ≠ missedLimit

/-- The following-error count comes to its limit (R138). -/
abbrev Lagging (c : Configuration) (d : DriveLink) : Prop :=
  (closedCounts c d).2 = followingLimit ∧ d.following ≠ followingLimit

/-- An exchange is answered or missed: a count comes to its limit alone (R134). -/
theorem not_lagging_of_lost {d : DriveLink} (lost : Lost c d) : ¬ Lagging c d := by
  revert lost
  unfold Lost Lagging closedCounts missedLimit
  split
  · exact fun lost => absurd lost.1 lost.2
  · split
    · split
      · exact fun lost => nomatch lost.1
      · exact fun _ lagging => lagging.2 lagging.1
    · exact fun _ lagging => lagging.2 lagging.1

/-- The close of an exchange makes one report at most. -/
theorem closeExchange_eq (c : Configuration) (s : State) : closeExchange c s =
    if Lost c s.drive then reportDrive .driveLost (counted c s)
    else if Lagging c s.drive then reportDrive .following (counted c s) else counted c s := by
  have lost : ((closedCounts c s.drive).1 == missedLimit && s.drive.missed != missedLimit) = decide (Lost c s.drive) := by
    rw [Bool.decide_and, Bool.beq_eq_decide_eq, bne, Bool.beq_eq_decide_eq, decide_not]
  have lagging : ((closedCounts c s.drive).2 == followingLimit && s.drive.following != followingLimit) =
      decide (Lagging c s.drive) := by
    rw [Bool.decide_and, Bool.beq_eq_decide_eq, bne, Bool.beq_eq_decide_eq, decide_not]
  have closed : closeExchange c s = if decide (Lagging c s.drive) then
      reportDrive .following (if decide (Lost c s.drive) then reportDrive .driveLost (counted c s) else counted c s)
      else if decide (Lost c s.drive) then reportDrive .driveLost (counted c s) else counted c s := by
    rw [← lost, ← lagging]; rfl
  by_cases isLost : Lost c s.drive
  · rw [closed, if_pos isLost, decide_eq_true isLost, decide_eq_false (not_lagging_of_lost isLost)]
    rfl
  · rw [closed, if_neg isLost, decide_eq_false isLost]
    simp only [Bool.false_eq_true, if_false, decide_eq_true_eq]

/-- What the counting gives and the reports keep, the close of an exchange gives. -/
theorem closeExchange_keeps {Q : State → Prop} (counts : Q (counted c s))
    (reports : ∀ cause t, Q t → Q (reportDrive cause t)) : Q (closeExchange c s) := by
  rw [closeExchange_eq]
  split
  · exact reports _ _ counts
  · split
    · exact reports _ _ counts
    · exact counts

theorem faultless_closeExchange (c : Configuration) (s : State) :
    faultless (closeExchange c s).drive = faultless (counted c s).drive :=
  closeExchange_keeps (Q := fun t => faultless t.drive = faultless (counted c s).drive) rfl
    fun cause t same => (faultless_reportDrive cause t).trans same

/-- The enable output goes off for a lost drive alone, and never on (R135, R140). -/
theorem closeExchange_enable (c : Configuration) (s : State) :
    ((closeExchange c s).drive.enable = true → s.drive.enable = true) ∧
      (¬ Lost c s.drive → (closeExchange c s).drive.enable = s.drive.enable) := by
  rw [closeExchange_eq]
  split
  · exact ⟨reportDrive_enable_le .driveLost (counted c s), absurd ‹_›⟩
  · split
    · have kept := reportDrive_following_enable (counted c s)
      exact ⟨fun on => kept.symm.trans on, fun _ => kept⟩
    · exact ⟨id, fun _ => rfl⟩

/-! ### The record that goes out -/

/-- With the enable output on and a setpoint taken, a setpoint record goes out (R132). -/
theorem sendRecord_setpoint {x ff : Int} (on : s.drive.enable = true) :
    (sendRecord (some (x, ff)) s).drive = { s.drive with
      seq := s.drive.seq + 1, answer := none, exchange := some ⟨s.drive.seq, some x⟩,
      sent := some (.setpoint s.drive.seq x ff) } := by
  simp only [sendRecord, on]

/-- Else a request record does (R132). -/
theorem sendRecord_request {pair : Option (Int × Int)} (bare : s.drive.enable = false ∨ pair = none) :
    (sendRecord pair s).drive = { s.drive with
      seq := s.drive.seq + 1, answer := none, exchange := some ⟨s.drive.seq, none⟩,
      sent := some (.request s.drive.seq) } := by
  rcases bare with off | rfl
  · simp only [sendRecord, off]
  · unfold sendRecord; cases s.drive.enable <;> rfl

/-- A setpoint record that goes out bears the present number and the pair handed on (R132). -/
theorem sendRecord_sent {pair : Option (Int × Int)} {q : Byte} {x ff : Int}
    (sent : (sendRecord pair s).drive.sent = some (.setpoint q x ff)) : q = s.drive.seq ∧ pair = some (x, ff) := by
  by_cases bare : s.drive.enable = false ∨ pair = none
  · rw [sendRecord_request bare] at sent
    exact nomatch sent
  · push Not at bare
    obtain ⟨⟨x', ff'⟩, rfl⟩ := Option.ne_none_iff_exists'.mp bare.2
    rw [sendRecord_setpoint (Bool.of_not_eq_false bare.1)] at sent
    cases sent
    exact ⟨rfl, rfl⟩

end Sys2Proof.Machine
end

section
/-! ## The setpoint of an update (R113, R120 to R130)

Every update of a node that holds setpoints, outside SETUP and PARKED, takes one setpoint: the limit chain's, the stopping
profile's, or in WAKING the one it has. Each of them keeps the limits and the velocity cap. -/

namespace Sys2Proof.Machine

variable {c : Configuration} {h : History} {s : State}

/-! ### The laws of a setpoint -/

theorem withinLimits_iff {x : Int} : withinLimits c x = true ↔ Within c x := by
  simp [withinLimits]

theorem within_clampInt (ordered : LimitsOrdered c) (x : Int) : Within c (clampInt c.limitLow c.limitHigh x) := by
  unfold clampInt; omega

theorem natAbs_withSign_le (like : Int) (size : Nat) : (withSign like size).natAbs ≤ size := by
  unfold withSign
  rw [Int.natAbs_mul, Int.natAbs_natCast]
  have unit : like.sign.natAbs ≤ 1 := by rcases Int.sign_trichotomy like with e | e | e <;> simp [e]
  simpa using Nat.mul_le_mul_right size unit

/-- The caps only shorten a step, and leave it no longer than the velocity cap (R122). -/
theorem capStep_natAbs_le (c : Configuration) (veff aStep : Nat) (prev step : Int) :
    (capStep c veff aStep prev step).natAbs ≤ velocityCap c veff := by
  unfold capStep
  split
  · simp
  · exact (natAbs_withSign_le _ _).trans ((Nat.min_le_right _ _).trans (Nat.min_le_left _ _))

/-- The acceleration clamp leaves a step between the last one and the one asked for (R123). -/
theorem clampAcceleration_natAbs_le {aStep bound : Nat} {last step : Int} (was : last.natAbs ≤ bound)
    (asked : step.natAbs ≤ bound) : (clampAcceleration aStep last step).natAbs ≤ bound := by
  unfold clampAcceleration clampAbs clampInt; omega

/-- From within the limits the final clamp only shortens a step (R124). -/
theorem clampInt_step_natAbs_le {prev : Int} (within : Within c prev) (step : Int) :
    (clampInt c.limitLow c.limitHigh (prev + step) - prev).natAbs ≤ step.natAbs := by
  unfold clampInt; omega

/-- The effective velocity limit is at most VEL_MAX (R79). -/
theorem veffOf_le (c : Configuration) (peers : List PeerEntry) : veffOf c peers ≤ c.velMax := by
  unfold veffOf
  split
  · exact Nat.min_le_left _ _
  · exact le_rfl

theorem velocityCap_mono (c : Configuration) {u v : Nat} (le : u ≤ v) : velocityCap c u ≤ velocityCap c v :=
  max_le_max le_rfl (Nat.div_le_div_right (Nat.mul_le_mul_right _ le))

/-- The step that the stopping profile takes (R127). -/
theorem stoppingProfile_step (c : Configuration) (aStep : Nat) (h : History) (trim : Int) : ∃ step : Int,
    (stoppingProfile c aStep h trim).setpoint = h.prev + step ∧
    step.natAbs ≤ (h.prev - h.prev2).natAbs ∧ (step ≠ 0 → Within c (h.prev + step)) := by
  set last := h.prev - h.prev2
  set shed := withSign last (last.natAbs - aStep)
  have shorter : shed.natAbs ≤ last.natAbs := (natAbs_withSign_le _ _).trans (Nat.sub_le _ _)
  set capped := if shed = 0 then 0 else withSign shed (min shed.natAbs (approachCap c aStep h.prev shed))
  have within_shed : capped.natAbs ≤ shed.natAbs := by
    unfold capped
    split
    · exact Nat.zero_le _
    · exact (natAbs_withSign_le _ _).trans (Nat.min_le_left _ _)
  refine ⟨if withinLimits c (h.prev + capped) then capped else 0, rfl, ?_, ?_⟩
  · split
    · exact within_shed.trans shorter
    · exact Nat.zero_le _
  · split
    · exact fun _ => withinLimits_iff.mp ‹_›
    · exact absurd rfl

/-- A setpoint that an update can take from a history. -/
def IsSetpoint (c : Configuration) (veff aStep : Nat) (h : History) (x : Int) : Prop :=
  (∃ trim mix, x = (limitChain c veff aStep h trim mix).setpoint) ∨
    (∃ trim, x = (stoppingProfile c aStep h trim).setpoint) ∨ x = h.prev

/-- Every setpoint lies within the limits (R124, R127). -/
theorem IsSetpoint.within {veff aStep : Nat} {x : Int} (takes : IsSetpoint c veff aStep h x)
    (ordered : LimitsOrdered c) (inside : Within c h.prev) : Within c x := by
  rcases takes with ⟨trim, mix, rfl⟩ | ⟨trim, rfl⟩ | rfl
  · exact within_clampInt ordered _
  · obtain ⟨step, taken, -, moved⟩ := stoppingProfile_step c aStep h trim
    rw [taken]
    by_cases still : step = 0
    · simpa [still] using inside
    · exact moved still
  · exact inside

/-- Every step stays within a velocity cap that the last one met (R122, R127). -/
theorem IsSetpoint.step_le {veff aStep bound : Nat} {x : Int} (takes : IsSetpoint c veff aStep h x)
    (inside : Within c h.prev) (last : (h.prev - h.prev2).natAbs ≤ bound) (cap : velocityCap c veff ≤ bound) :
    (x - h.prev).natAbs ≤ bound := by
  rcases takes with ⟨trim, mix, rfl⟩ | ⟨trim, rfl⟩ | rfl
  · exact (clampInt_step_natAbs_le inside _).trans
      (clampAcceleration_natAbs_le last ((capStep_natAbs_le _ _ _ _ _).trans cap))
  · obtain ⟨step, taken, shorter, -⟩ := stoppingProfile_step c aStep h trim
    rw [taken, add_sub_cancel_left]
    exact shorter.trans last
  · simp

/-! ### The setpoint the mix stage takes -/

/-- The feed-forward is the step over the update period, exactly (R130). -/
theorem feedForward_exact (c : Configuration) (step : Int) :
    step * (1000 / periodMs c.period : Nat) * periodMs c.period = step * 1000 := by
  rw [mul_assoc]
  congr 1
  cases c.period <;> rfl

/-- The mix stage of a node that steers its axis and holds setpoints (R113). -/
theorem mixStage_steering {path : Option Int} {clamped : Bool} (steers : working s.control.axisState = true)
    (history : s.blend.history = some h) :
    mixStage c path clamped s = mixedUpdate c path h { s with blend := { s.blend with limited := clamped } } := by
  rcases working_iff.mp steers with state | state | state | state | state | state <;>
    simp only [mixStage, state, history]

/-- What the mix stage makes of a state: one setpoint of its history, with the pair for the drive; the live position
stays or follows it (R113, R126, R127, R129, R130). -/
def TakesSetpoint (c : Configuration) (h : History) (s : State) (m : MixResult) : Prop :=
  ∃ x, IsSetpoint c (s.pace.veff.getD c.velMax) s.blend.aStep h x ∧
    m.state.blend.history = some ⟨x, h.prev⟩ ∧
    m.pair = some (x, (x - h.prev) * (1000 / periodMs c.period : Nat)) ∧
    (m.state.blend.live = s.blend.live ∨ m.state.blend.live = some x)

theorem mixedUpdate_takes (c : Configuration) (path : Option Int) (h : History) (s : State) :
    TakesSetpoint c h s (mixedUpdate c path h s) := by
  unfold mixedUpdate takeSetpoint
  dsimp only
  split
  · exact ⟨_, .inl ⟨_, _, rfl⟩, rfl, rfl, .inl rfl⟩
  · exact ⟨_, .inl ⟨_, _, rfl⟩, rfl, rfl, .inr rfl⟩

theorem stoppedUpdate_takes (c : Configuration) (history : s.blend.history = some h) :
    TakesSetpoint c h s (stoppedUpdate c s) := by
  unfold stoppedUpdate takeSetpoint
  rw [history]
  exact ⟨_, .inr (.inl ⟨s.blend.trim, rfl⟩), rfl, rfl, .inl rfl⟩

/-- Outside SETUP and PARKED a node that holds setpoints takes one (R113, R127, R129). -/
theorem mixStage_takes (c : Configuration) (path : Option Int) (clamped : Bool) (history : s.blend.history = some h)
    (unset : s.control.axisState ≠ .setup) (unparked : s.control.axisState ≠ .parked) :
    TakesSetpoint c h s (mixStage c path clamped s) := by
  rcases steers : working s.control.axisState with _ | _
  · rcases not_working_iff.mp steers with state | state | state | state | state
    · exact absurd state unset
    · simp only [mixStage, state, history]
      exact ⟨h.prev, .inr (.inr rfl), rfl, by simp, .inl rfl⟩
    · exact absurd state unparked
    all_goals
      simp only [mixStage, state]
      exact stoppedUpdate_takes (s := { s with blend := { s.blend with limited := false } }) c history
  · rw [mixStage_steering steers history]
    exact mixedUpdate_takes c path h { s with blend := { s.blend with limited := clamped } }

/-- A node without setpoints, or in SETUP or PARKED, sends no pair and moves nothing (R113). -/
theorem mixStage_takes_nothing (c : Configuration) (path : Option Int) (clamped : Bool)
    (idle : s.blend.history = none ∨ s.control.axisState = .setup ∨ s.control.axisState = .parked) :
    let m := mixStage c path clamped s
    m.state.blend.history = s.blend.history ∧ m.state.blend.live = s.blend.live ∧ m.pair = none := by
  rcases idle with history | state | state
  · rcases state : s.control.axisState <;> simp [mixStage, stoppedUpdate, state, history]
  · simp [mixStage, state]
  · simp [mixStage, state]

end Sys2Proof.Machine
end

section
/-! ## What arrivals keep (R13 to R20)

An arrival rewrites the run, the live unit's remainder and the weight target, queues PACE frames, and enters RUNNING,
WAITING or RELEASING; the one live position it sets is the present setpoint, on the way into LIVE. -/

namespace Sys2Proof.Machine

/-- A predicate that all of this keeps. -/
structure KeptByArrivals (P : State → Prop) : Prop where
  edit : ∀ s run live weightTarget, P s →
    P { s with control := { s.control with run := run }, live := live,
               blend := { s.blend with weightTarget := weightTarget } }
  told : ∀ s, P s → P (queuePace s)
  enters : ∀ s new, new = .running ∨ new = .waiting ∨ new = .releasing → P s → P (enterState new s)
  latches : ∀ s, P s → P (enterLiveAt (presentSetpoint s.blend) s)

namespace KeptByArrivals

variable {P : State → Prop} {s : State}

theorem rerun (K : KeptByArrivals P) (run : Option RunContext) (h : P s) :
    P { s with control := { s.control with run := run } } := K.edit s run s.live s.blend.weightTarget h

theorem beginSegment (K : KeptByArrivals P) (g : Segment) (h : P s) : P (beginSegment g s) := by
  have edited : P (onSegment (fun _ => g) s) := K.rerun _ h
  unfold Machine.beginSegment
  dsimp only
  split
  · exact K.enters _ _ (.inl rfl) edited
  · exact K.told _ edited

theorem waitAt (K : KeptByArrivals P) (w : WaitPoint) (h : P s) : P (waitAt w s) :=
  K.enters _ _ (.inr (.inl rfl)) (K.rerun _ h)

theorem stepEnd (K : KeptByArrivals P) (m : Mark) (h : P s) : P (stepEnd m s) := by
  unfold Machine.stepEnd
  split
  · exact K.rerun _ h
  · split
    · exact K.waitAt _ h
    · split
      · exact K.enters _ _ (.inr (.inr rfl)) (K.edit s _ _ _ h)
      · exact K.latches s h

theorem stepNext (K : KeptByArrivals P) (m : Mark) (h : P s) : P (stepNext m s) := by
  unfold Machine.stepNext
  split
  · exact K.beginSegment _ h
  · exact K.stepEnd m h

theorem stepLoop (K : KeptByArrivals P) (n : MarkNo) (m : Mark) (h : P s) : P (stepLoop n m s) := by
  unfold Machine.stepLoop
  split
  · dsimp only
    split
    · exact K.beginSegment _ (K.rerun _ h)
    · exact K.stepNext m (K.rerun _ h)
  · exact K.stepNext m h

theorem stepStop (K : KeptByArrivals P) (n : MarkNo) (m : Mark) (h : P s) : P (stepStop n m s) := by
  unfold Machine.stepStop
  split
  · exact K.waitAt _ h
  · exact K.stepLoop n m h

theorem stepDwell (K : KeptByArrivals P) (n : MarkNo) (m : Mark) (served : Bool) (h : P s) :
    P (stepDwell n m served s) := by
  unfold Machine.stepDwell
  split
  · exact K.stepStop n m h
  · have edited : P (onSegment (fun g => { g with dwellServed := true }) s) := K.rerun _ h
    dsimp only
    split
    · exact K.beginSegment _ edited
    · exact K.stepStop n m edited

theorem handBack (K : KeptByArrivals P) (h : P s) : P (handBack s) := by
  unfold Machine.handBack
  split
  · exact h
  · split
    · exact h
    · rename_i r _ _ g _
      have back : P (queuePace (withRun { r with segment := g, heldAside := none } s)) := K.told _ (K.rerun _ h)
      dsimp only
      split
      · exact back
      · split
        · exact back
        · split
          · exact K.stepLoop _ _ (K.rerun _ back)
          · exact K.waitAt _ back
        · exact K.stepEnd _ back

theorem takeArrival (K : KeptByArrivals P) (h : P s) : P (takeArrival s) := by
  unfold Machine.takeArrival
  split
  · exact h
  · dsimp only
    split
    · exact K.handBack h
    · exact K.stepDwell _ _ _ h

end KeptByArrivals

/-- An arrival leaves a node that steers its axis steering or halted (R139). -/
theorem steering_keptByArrivals :
    KeptByArrivals fun s => working s.control.axisState = true ∨ s.control.axisState = .halted := by
  have entered {new : AxisState} (steers : working new = true) (s : State) :
      working (enterState new s).control.axisState = true ∨ (enterState new s).control.axisState = .halted := by
    rcases enterState_cases new s with changed | ⟨-, -, halted⟩
    · rw [changed, changeState_control]; exact .inl steers
    · rw [halted, haltNode_control]; exact .inr rfl
  exact { edit := fun _ _ _ _ h => h
          told := fun s h => by rwa [queuePace_control]
          enters := fun s new moves _ => entered (by rcases moves with rfl | rfl | rfl <;> rfl) s
          latches := fun s _ => entered rfl _ }

theorem working_of_hasRun {st : AxisState} (moves : hasRun st = true) : working st = true := by
  rcases hasRun_iff.mp moves with rfl | rfl | rfl | rfl <;> rfl

/-- The path stage leaves the axis state, or takes a node with a run to a state that steers the axis or to HALTED
(R56, R58). -/
theorem pathStage_axisState (c : Configuration) (s : State) :
    (pathStage c s).1.control.axisState = s.control.axisState ∨ (working s.control.axisState = true ∧
      (working (pathStage c s).1.control.axisState = true ∨ (pathStage c s).1.control.axisState = .halted)) := by
  rcases pathStage_cases c s with same | ⟨moves, r, moved | arrived⟩
  · rw [same]; exact .inl rfl
  · rw [moved]; exact .inl rfl
  · have steers : working s.control.axisState = true := working_of_hasRun moves
    rw [arrived]
    exact .inr ⟨steers, steering_keptByArrivals.takeArrival (s := withRun r s) (.inl steers)⟩

end Sys2Proof.Machine
end

section
/-! ## Setpoints and live position within the limits (R118, R124, R129, R180)

A part of the law holds in every axis state; the rest says which states hold setpoints and a live position. A node that
steers its axis holds both, so run control may take it to any state: what it starts or returns from is the present
setpoint, within the limits already. -/

namespace Sys2Proof.Machine

/-! ### The parts of the law -/

/-- The part of the state that the law speaks of. -/
structure Bearings where
  axisState : AxisState
  config : Option Configuration
  stored : Option Configuration
  written : Option Configuration
  captured : Bool
  enable : Bool
  history : Option History
  live : Option Int

/-- The bearings of a state. -/
def bearings (s : State) : Bearings :=
  { axisState := s.control.axisState, config := s.startup.config, stored := s.nonvolatile.config,
    written := s.startup.write.map (·.record), captured := s.drive.captured, enable := s.drive.enable,
    history := s.blend.history, live := s.blend.live }

namespace Bearings

/-- The limits of every configuration the node holds are in order (R180). -/
structure Ordered (b : Bearings) : Prop where
  in_force : ∀ c, b.config = some c → LimitsOrdered c
  stored : ∀ c, b.stored = some c → LimitsOrdered c
  written : ∀ c, b.written = some c → LimitsOrdered c

/-- What the law says in every axis state: positions lie within the limits, and no enable without setpoints. -/
structure Lawful (b : Bearings) : Prop extends Ordered b where
  enabled : b.enable = true → b.history.isSome = true
  history : ∀ c h, b.config = some c → b.history = some h → Within c h.prev ∧ Within c h.prev2
  live : ∀ c x, b.config = some c → b.live = some x → Within c x

/-- Which axis states hold setpoints and a live position. -/
structure Fits (b : Bearings) : Prop where
  steered : working b.axisState = true ∨ b.axisState = .halted → b.history.isSome = true
  positioned : working b.axisState = true → b.live.isSome = true
  captured : b.axisState = .waking → b.captured = true → b.history.isSome = true ∧ b.live.isSome = true

/-- Lawful, with setpoints and a live position: all that any axis state asks for. -/
structure Placed (b : Bearings) : Prop where
  lawful : b.Lawful
  history : b.history.isSome = true
  live : b.live.isSome = true

variable {b : Bearings}

theorem Lawful.inState (h : b.Lawful) (new : AxisState) : { b with axisState := new }.Lawful :=
  ⟨⟨h.in_force, h.stored, h.written⟩, h.enabled, h.history, h.live⟩

theorem Lawful.disabled (h : b.Lawful) : { b with enable := false }.Lawful :=
  ⟨⟨h.in_force, h.stored, h.written⟩, fun on => (nomatch on), h.history, h.live⟩

theorem Lawful.withLive (h : b.Lawful) {x : Int} (within : ∀ c, b.config = some c → Within c x) :
    { b with live := some x }.Lawful :=
  ⟨⟨h.in_force, h.stored, h.written⟩, h.enabled, h.history,
    fun c _ config live => Option.some.inj live ▸ within c config⟩

theorem Lawful.withHistory (h : b.Lawful) (new : History) (captured enable : Bool)
    (within : ∀ c, b.config = some c → Within c new.prev ∧ Within c new.prev2) :
    { b with captured := captured, enable := enable, history := some new }.Lawful :=
  ⟨⟨h.in_force, h.stored, h.written⟩, fun _ => rfl,
    fun c _ config history => Option.some.inj history ▸ within c config, h.live⟩

/-- Without setpoints and live position, and with the enable off, only the limits' order is asked for. -/
theorem Ordered.lawful (h : b.Ordered) (enable : b.enable = false) (history : b.history = none)
    (live : b.live = none) : b.Lawful :=
  ⟨h, fun on => (nomatch enable.symm.trans on), fun _ _ _ has => (nomatch history.symm.trans has),
    fun _ _ _ has => (nomatch live.symm.trans has)⟩

theorem Placed.inState (h : b.Placed) (new : AxisState) : { b with axisState := new }.Placed :=
  ⟨h.lawful.inState new, h.history, h.live⟩

theorem Placed.fits (h : b.Placed) : b.Fits := ⟨fun _ => h.history, fun _ => h.live, fun _ _ => ⟨h.history, h.live⟩⟩

/-- HALTED asks for setpoints alone. -/
theorem fits_halted (state : b.axisState = .halted) (history : b.history.isSome = true) : b.Fits :=
  ⟨fun _ => history, by rw [state]; nofun, by rw [state]; nofun⟩

/-- SETUP, FAULT, PARKED and WAKING before capture ask for nothing. -/
theorem fits_idle (idle : b.axisState = .setup ∨ b.axisState = .fault ∨ b.axisState = .parked ∨
    b.axisState = .waking ∧ b.captured = false) : b.Fits := by
  rcases idle with state | state | state | ⟨state, captured⟩
  iterate 3 exact ⟨by rw [state]; nofun, by rw [state]; nofun, by rw [state]; nofun⟩
  exact ⟨by rw [state]; nofun, by rw [state]; nofun, by rw [captured]; nofun⟩

end Bearings

open Bearings

section
variable {s t : State}

theorem setpointsWithin_iff : SetpointsWithin s ↔ (bearings s).Lawful ∧ (bearings s).Fits := by
  refine ⟨fun h => ⟨⟨⟨h.in_force, h.stored, fun c written => ?_⟩, h.enabled, h.history, h.live⟩,
    ⟨h.steered, h.positioned, h.captured⟩⟩, fun ⟨h, f⟩ => ⟨h.in_force, h.stored, fun w write => ?_, f.steered,
    f.positioned, f.captured, h.enabled, h.history, h.live⟩⟩
  · obtain ⟨w, write, rfl⟩ := Option.map_eq_some_iff.mp written
    exact h.written w write
  · exact h.written w.record (Option.map_eq_some_iff.mpr ⟨w, write, rfl⟩)

theorem SetpointsWithin.lawful (h : SetpointsWithin s) : (bearings s).Lawful := (setpointsWithin_iff.mp h).1

theorem SetpointsWithin.congr (h : SetpointsWithin s) (same : bearings t = bearings s) : SetpointsWithin t := by
  rw [setpointsWithin_iff, same]
  exact setpointsWithin_iff.mp h

/-- A node that steers its axis is placed. -/
theorem SetpointsWithin.placed (h : SetpointsWithin s) (steers : working s.control.axisState = true) :
    (bearings s).Placed := ⟨h.lawful, h.steered (.inl steers), h.positioned steers⟩

/-- A placed node meets the law in every axis state. -/
theorem setpointsWithin_of_placed (h : (bearings s).Placed) : SetpointsWithin s :=
  setpointsWithin_iff.mpr ⟨h.lawful, h.fits⟩

/-- The present setpoint of a node that has one lies within the limits. -/
theorem within_presentSetpoint (h : (bearings s).Lawful) (history : s.blend.history.isSome = true) (c : Configuration)
    (config : s.startup.config = some c) : Within c (presentSetpoint s.blend) := by
  obtain ⟨old, has⟩ := Option.isSome_iff_exists.mp history
  rw [presentSetpoint, has]
  exact (h.history c old config has).1

/-! ### What the small operations leave of the bearings -/

/-- What keeps the steady part and the live position keeps the bearings, but for the axis state. -/
theorem bearings_of_steady (same : steady t = steady s) (live : t.blend.live = s.blend.live) :
    bearings t = { bearings s with axisState := t.control.axisState } := by
  have startup : t.startup = s.startup := congrArg Steady.startup same
  have store : t.nonvolatile = s.nonvolatile := congrArg Steady.nonvolatile same
  have captured : t.drive.captured = s.drive.captured := congrArg (·.drive.captured) same
  have enable : t.drive.enable = s.drive.enable := congrArg (·.drive.enable) same
  have history : t.blend.history = s.blend.history := congrArg Steady.history same
  simp [bearings, startup, store, captured, enable, history, live]

@[simp] theorem bearings_changeState (new : AxisState) (s : State) :
    bearings (changeState new s) = { bearings s with axisState := new } := by simp [bearings]

@[simp] theorem bearings_haltNode (cause : Cause) (s : State) :
    bearings (haltNode cause s) = { bearings s with axisState := .halted } := by simp [bearings]

@[simp] theorem bearings_queueState (s : State) : bearings (queueState s) = bearings s := by simp [bearings]

@[simp] theorem bearings_sendPace (need : Nat) (s : State) : bearings (sendPace need s) = bearings s := by
  simp [bearings]

@[simp] theorem bearings_queuePace (s : State) : bearings (queuePace s) = bearings s := bearings_sendPace _ s

@[simp] theorem bearings_queueHalt (cause : FaultCause) (s : State) : bearings (queueHalt cause s) = bearings s := by
  simp [bearings]

@[simp] theorem bearings_hear (a : Addr) (f : PeerEntry → PeerEntry) (s : State) :
    bearings (hear a f s) = bearings s := by simp [bearings]

theorem bearings_paceInterval (s : State) : bearings (paceInterval s) = bearings s := by
  unfold paceInterval; split <;> simp

theorem bearings_paceCheck (s : State) : bearings (paceCheck s) = bearings s := by
  unfold paceCheck; split <;> simp

theorem bearings_stateInterval (s : State) : bearings (stateInterval s) = bearings s := by
  unfold stateInterval; split <;> simp

theorem bearings_takePoll (target : Option Addr) (s : State) : bearings (takePoll target s) = bearings s := by
  unfold takePoll
  split
  · simp
  · split <;> simp

theorem bearings_leaveCounted (a : Addr) (p : PacePayload) (s : State) :
    bearings (leaveCounted a p s) = bearings s := by
  unfold leaveCounted; dsimp only; split <;> rfl

theorem bearings_staleDemand (s : State) : bearings (staleDemand s) = bearings s := by
  unfold staleDemand; split <;> rfl

theorem bearings_releaseChannel (ch : Channel) (s : State) : bearings (releaseChannel ch s) = bearings s := by
  cases ch <;> rfl

theorem bearings_startFrame (s : State) : bearings (startFrame s) = bearings s := by
  unfold startFrame
  split
  · rfl
  · split <;> rfl

theorem bearings_loseContention (s : State) : bearings (loseContention s) = bearings s := by
  unfold loseContention
  split
  · split <;> rfl
  · rfl

theorem bearings_frameSent (s : State) : bearings (frameSent s) = bearings s := by
  unfold frameSent
  split
  · split <;> rfl
  · rfl

theorem bearings_takeDemandFrame (a : Addr) (p : DemandPayload) (s : State) :
    bearings (takeDemandFrame a p s) = bearings s := by
  unfold takeDemandFrame
  split
  · rfl
  · rw [dialPart_eq]
    change bearings (demandPart a p s) = bearings s
    unfold demandPart
    split
    · split <;> rfl
    · rfl

theorem bearings_sendRecord (pair : Option (Int × Int)) (s : State) :
    bearings (sendRecord pair s) = bearings s := by
  obtain ⟨x, r, sent⟩ := sendRecord_opens pair s
  rw [sent]; rfl

theorem bearings_slotWriteEnd (s : State) : bearings (slotWriteEnd s) = bearings s := by
  obtain ⟨marks, slots, ended⟩ := slotWriteEnd_frame s
  rw [ended]; rfl

/-! ### Faults -/

/-- FAULT asks for nothing that a lawful node lacks (R34). -/
theorem setpointsWithin_enterFault (cause : FaultCause) (h : (bearings s).Lawful) :
    SetpointsWithin (enterFault cause s) := by
  have same : bearings (enterFault cause s) = { bearings s with
      axisState := .fault, enable := s.drive.enable && !enableOffCause cause } := by
    rw [enterFault, bearings_queueHalt, bearings_changeState]
    rfl
  rw [setpointsWithin_iff, same]
  exact ⟨⟨⟨h.in_force, h.stored, h.written⟩, fun on => h.enabled (Bool.and_eq_true_iff.mp on).1, h.history, h.live⟩,
    fits_idle (.inr (.inl rfl))⟩

theorem setpointsWithin_reportFault (cause : FaultCause) (h : SetpointsWithin s) :
    SetpointsWithin (reportFault cause s) :=
  reportFault_cases (Q := SetpointsWithin) cause h
    (fun _ fault => setpointsWithin_iff.mpr ⟨h.lawful.disabled, fits_idle (.inr (.inl fault))⟩)
    (fun _ _ => h.congr rfl) (setpointsWithin_enterFault cause h.lawful)

theorem setpointsWithin_reportDrive (cause : FaultCause) (h : SetpointsWithin s) :
    SetpointsWithin (reportDrive cause s) :=
  reportDrive_cases (Q := SetpointsWithin) cause h (setpointsWithin_reportFault cause h)

theorem setpointsWithin_reportClash (h : SetpointsWithin s) : SetpointsWithin (reportClash s) := by
  unfold reportClash
  split
  · exact h
  · exact h
  · exact setpointsWithin_reportFault _ (h.congr rfl)

theorem setpointsWithin_dropFrame (hand : InHand) (h : SetpointsWithin s) : SetpointsWithin (dropFrame hand s) :=
  setpointsWithin_reportFault _ (h.congr rfl)

theorem setpointsWithin_dropEvent (h : SetpointsWithin s) : SetpointsWithin (dropEvent s) := by
  unfold dropEvent
  split
  · exact setpointsWithin_dropFrame _ (h.congr rfl)
  · exact h

theorem setpointsWithin_takeEchoError (h : SetpointsWithin s) : SetpointsWithin (takeEchoError s) := by
  unfold takeEchoError
  split
  · split
    · dsimp only
      split
      · exact setpointsWithin_dropFrame _ (h.congr rfl)
      · exact h.congr rfl
    · exact h
  · exact h

theorem setpointsWithin_exchangeStage (c : Configuration) (pair : Option (Int × Int)) (h : SetpointsWithin s) :
    SetpointsWithin (exchangeStage c pair s) := by
  have closed : SetpointsWithin (closeExchange c s) :=
    closeExchange_keeps (Q := SetpointsWithin) (h.congr rfl) fun cause _ => setpointsWithin_reportDrive cause
  exact closed.congr (bearings_sendRecord pair _)

/-! ### Run control moves a placed node -/

theorem Bearings.Placed.of_steady (h : (bearings s).Placed) (same : steady t = steady s)
    (live : t.blend.live = s.blend.live) : (bearings t).Placed := by
  rw [bearings_of_steady same live]
  exact h.inState _

/-- The live position may be put at the present setpoint (R17, R33, R116). -/
theorem Bearings.Placed.atSetpoint (h : (bearings s).Placed) (same : steady t = steady s)
    (live : t.blend.live = some (presentSetpoint s.blend)) : (bearings t).Placed := by
  have moved : (bearings { s with blend := { s.blend with live := some (presentSetpoint s.blend) } }).Placed :=
    ⟨h.lawful.withLive (within_presentSetpoint h.lawful h.history), h.history, rfl⟩
  exact moved.of_steady same live

theorem placed_enterState (new : AxisState) (h : (bearings s).Placed) : (bearings (enterState new s)).Placed :=
  h.of_steady (steady_enterState new s) (enterState_blend_live new s)

/-- Halting asks for setpoints (R32). -/
theorem setpointsWithin_haltNode (cause : Cause) (h : (bearings s).Lawful) (history : s.blend.history.isSome = true) :
    SetpointsWithin (haltNode cause s) := by
  rw [setpointsWithin_iff, bearings_haltNode]
  exact ⟨h.inState _, fits_halted rfl history⟩

/-- LIVE is entered at any position within the limits (R17, R33, R35). -/
theorem placed_enterLiveAt {x : Int} (h : (bearings s).Lawful) (history : s.blend.history.isSome = true)
    (within : ∀ c, s.startup.config = some c → Within c x) : (bearings (enterLiveAt x s)).Placed := by
  have moved : (bearings { s with blend := { s.blend with live := some x } }).Placed :=
    ⟨h.withLive within, history, rfl⟩
  exact moved.of_steady (by rw [steady_enterLiveAt]; rfl) (by simp [enterLiveAt])

/-- LIVE is entered at the present setpoint (R17, R33). -/
theorem placed_enterLiveAt_setpoint (h : (bearings s).Lawful) (history : s.blend.history.isSome = true) :
    (bearings (enterLiveAt (presentSetpoint s.blend) s)).Placed :=
  placed_enterLiveAt h history (within_presentSetpoint h history)

/-- An arrival rewrites the run and the weight target, tells of it, and enters RUNNING, WAITING, RELEASING, or LIVE at
the setpoint it has: it leaves a placed node placed (R13 to R20). -/
theorem placed_keptByArrivals : KeptByArrivals fun s => (bearings s).Placed where
  edit _ _ _ _ h := h
  told _ h := by rwa [bearings_queuePace]
  enters _ new _ := placed_enterState new
  latches _ h := placed_enterLiveAt_setpoint h.lawful h.history

theorem placed_continueRun (h : (bearings s).Placed) : (bearings (continueRun s)).Placed := by
  unfold continueRun
  split
  · exact h
  · exact placed_keptByArrivals.stepLoop _ _ h

/-- A run starts at the present setpoint (R43, R116). -/
theorem placed_startRun (a : ArmRecord) (stack : List RunContext) (h : (bearings s).Placed) :
    (bearings (startRun a stack s)).Placed :=
  h.atSetpoint (steady_startRun a stack s) (by simp [startRun])

/-- So does the way back to a stacked run (R49, R116). -/
theorem placed_popRun (duration : Nat) (top : RunContext) (rest : List RunContext) (h : (bearings s).Placed) :
    (bearings (popRun duration top rest s)).Placed :=
  h.atSetpoint (steady_popRun duration top rest s) (by simp [popRun])

theorem placed_goRun (stack : List RunContext) (h : (bearings s).Placed) : (bearings (goRun stack s)).Placed := by
  unfold goRun
  split
  · exact placed_startRun _ _ h
  · exact h

theorem placed_goPending (nest : Bool) (h : (bearings s).Placed) : (bearings (goPending nest s)).Placed := by
  unfold goPending
  split
  · split
    · exact h
    · exact placed_goRun _ h
  · exact placed_goRun _ h

/-! ### Halts, grabs and losses, and the cues -/

/-- A node that steers its axis stays within the law by an operation that leaves it placed. -/
theorem SetpointsWithin.steers (h : SetpointsWithin s) (state : working s.control.axisState = true)
    (placed : (bearings s).Placed → (bearings t).Placed) : SetpointsWithin t :=
  setpointsWithin_of_placed (placed (h.placed state))

theorem setpointsWithin_takeHalt (code : Byte) (h : SetpointsWithin s) : SetpointsWithin (takeHalt code s) := by
  unfold takeHalt
  split
  · exact setpointsWithin_haltNode _ h.lawful (h.steered (.inl ‹_›))
  · exact h

theorem setpointsWithin_armExpiry (h : SetpointsWithin s) : SetpointsWithin (armExpiry s) := by
  unfold armExpiry
  split
  · dsimp only
    split
    · rename_i state
      have state : s.control.axisState = .armed := state
      exact h.steers (by rw [state]; rfl) fun placed => placed_enterState _ placed
    · exact h.congr rfl
  · exact h

theorem setpointsWithin_takeGrab (h : SetpointsWithin s) : SetpointsWithin (takeGrab s) := by
  unfold takeGrab
  split
  · rename_i state; exact h.steers (by rw [state]; rfl) fun placed => placed_enterState _ placed
  · rename_i state; exact h.steers (by rw [state]; rfl) fun placed => placed_enterState _ placed
  · exact h

theorem setpointsWithin_grabExpiry (h : SetpointsWithin s) : SetpointsWithin (grabExpiry s) := by
  unfold grabExpiry
  split
  · exact setpointsWithin_takeGrab (h.congr rfl)
  · exact h

theorem setpointsWithin_takeCountedLoss (h : SetpointsWithin s) : SetpointsWithin (takeCountedLoss s) := by
  unfold takeCountedLoss
  split
  · rename_i state; exact h.steers (by rw [state]; rfl) fun placed => placed_enterState _ placed
  · exact h

theorem setpointsWithin_losePeer (a : Addr) (h : SetpointsWithin s) : SetpointsWithin (losePeer a s) := by
  unfold losePeer
  split
  · dsimp only
    split
    · exact setpointsWithin_takeCountedLoss (h.congr rfl)
    · exact h.congr rfl
  · exact h

theorem setpointsWithin_takeArm (cue : CueNo) (first : MarkNo) (h : SetpointsWithin s) :
    SetpointsWithin (takeArm cue first s) := by
  by_cases unnumbered : cue = 0
  · rwa [takeArm_unheard first (.inl unnumbered)]
  rcases steers : working s.control.axisState with _ | _
  · rcases not_working_iff.mp steers with state | state | state | state | state
    · rwa [takeArm_unheard first (.inr (.inl state))]
    · rwa [takeArm_unheard first (.inr (.inr (.inl state)))]
    · rwa [takeArm_unheard first (.inr (.inr (.inr state)))]
    · rw [takeArm_stopped first unnumbered (.inl state)]; exact h.congr rfl
    · rw [takeArm_stopped first unnumbered (.inr state)]; exact h.congr rfl
  · rw [takeArm_checked first unnumbered steers]
    split
    · exact h.congr rfl
    · exact h.congr rfl
    · dsimp only
      split
      · refine h.steers steers fun placed => placed.of_steady ?_ (by simp [withArm])
        rw [steady_readStop, steady_queuePace, steady_changeState]; rfl
      · exact h.congr rfl

theorem setpointsWithin_takeGo (cue : CueNo) (nest : Bool) (h : SetpointsWithin s) :
    SetpointsWithin (takeGo cue nest s) := by
  have answered (steers : working s.control.axisState = true) :
      SetpointsWithin (if armedFor cue s.control then goRun [] s else cueAnswer .missed s) := by
    split
    · exact h.steers steers (placed_goRun [])
    · exact h.congr rfl
  have pending (steers : working s.control.axisState = true) : SetpointsWithin
      (if armedFor cue s.control then goPending nest s
        else if waitsForGo cue s.control then continueRun s else cueAnswer .missed s) := by
    split
    · exact h.steers steers (placed_goPending nest)
    · split
      · exact h.steers steers placed_continueRun
      · exact h.congr rfl
  unfold takeGo
  split
  · exact h
  · split
    iterate 3 exact h
    iterate 2 exact h.congr rfl
    · rename_i state; exact answered (by rw [state]; rfl)
    · rename_i state
      have steers : working s.control.axisState = true := by rw [state]; rfl
      split
      · exact h.steers steers (placed_goRun [])
      · exact h.steers steers fun placed => placed_enterState _ placed
    · rename_i state; exact answered (by rw [state]; rfl)
    all_goals rename_i state; exact pending (by rw [state]; rfl)

theorem setpointsWithin_takeHold (cue : CueNo) (h : SetpointsWithin s) : SetpointsWithin (takeHold cue s) := by
  unfold takeHold
  split
  iterate 3 exact h
  iterate 4 exact h.congr rfl
  iterate 3 exact h
  rename_i state
  split
  · exact h.steers (by rw [state]; rfl) fun placed => placed_enterState _ placed
  · exact h

theorem setpointsWithin_takeResume (cue : CueNo) (h : SetpointsWithin s) : SetpointsWithin (takeResume cue s) := by
  unfold takeResume
  split
  · rename_i state
    split
    · exact h.steers (by rw [state]; rfl) (placed_enterState _)
    · exact h
  · exact h

theorem setpointsWithin_takeAbort (cue : CueNo) (h : SetpointsWithin s) : SetpointsWithin (takeAbort cue s) := by
  have dropped (b : Bool) : SetpointsWithin
      (if b then { s with control := { s.control with arm := none } } else s) := by
    split
    · exact h.congr rfl
    · exact h
  have run (steers : working s.control.axisState = true) : SetpointsWithin
      (if cueMatches cue (s.control.run.map (·.cue)) then haltNode .abort s
        else if cueMatches cue (s.control.arm.map (·.cue)) then { s with control := { s.control with arm := none } }
        else s) := by
    split
    · exact setpointsWithin_haltNode _ h.lawful (h.steered (.inl steers))
    · exact dropped _
  unfold takeAbort
  dsimp only
  split
  iterate 4 (rename_i state; exact run (by rw [state]; rfl))
  · rename_i state
    split
    · exact h.steers (by rw [state]; rfl) fun placed => placed_enterState _ placed
    · exact h
  · exact dropped _
  · exact h

theorem setpointsWithin_takeReturn (cue : CueNo) (duration : Nat) (h : SetpointsWithin s) :
    SetpointsWithin (takeReturn cue duration s) := by
  have back (steers : working s.control.axisState = true) : SetpointsWithin
      (if cueMatches cue (ownCue s.control) then
        match s.control.stack with
        | [] => cueAnswer .noReturn s
        | top :: rest => popRun duration top rest s
      else s) := by
    split
    · split
      · exact h.congr rfl
      · exact h.steers steers (placed_popRun duration _ _)
    · exact h
  unfold takeReturn
  split
  iterate 3 exact h
  iterate 4 exact h.congr rfl
  · split
    · exact h.congr rfl
    · exact h
  all_goals rename_i state; exact back (by rw [state]; rfl)

theorem setpointsWithin_handled {f : State → State} (e : Handling f) (h : SetpointsWithin s) :
    SetpointsWithin (f s) := by
  cases e with
  | recordOnly => exact h
  | halt code => exact setpointsWithin_takeHalt code h
  | arm cue first => exact setpointsWithin_takeArm cue first h
  | go cue nest => exact setpointsWithin_takeGo cue nest h
  | hold cue => exact setpointsWithin_takeHold cue h
  | resume cue => exact setpointsWithin_takeResume cue h
  | abort cue => exact setpointsWithin_takeAbort cue h
  | returnCue cue duration => exact setpointsWithin_takeReturn cue duration h
  | demand a p => exact h.congr (bearings_takeDemandFrame a p s)
  | pace a p => exact h.congr (bearings_leaveCounted a p s)
  | poll target => exact h.congr (bearings_takePoll target s)

/-! ### Capture, the stop input, the settle timer and CLEAR -/

/-- A capture inside the limits places the node there, and one outside faults it (R129, R136). -/
theorem setpointsWithin_capture {c : Configuration} {x : Int} (config : s.startup.config = some c)
    (state : s.control.axisState = .waking) (h : SetpointsWithin s) : SetpointsWithin (capture c x s) := by
  unfold capture
  dsimp only
  split
  · rename_i inside
    have within (d : Configuration) (force : s.startup.config = some d) : Within d x := by
      rw [← Option.some.inj (config.symm.trans force)]
      exact withinLimits_iff.mp inside
    exact setpointsWithin_of_placed ⟨(h.lawful.withHistory ⟨x, x⟩ true true fun d force =>
      ⟨within d force, within d force⟩).withLive within, rfl, rfl⟩
  · have faults : reportFault .outOfRange { s with drive := { s.drive with captured := true } } =
        enterFault .outOfRange { s with drive := { s.drive with captured := true } } := by
      simp only [reportFault, state]
    rw [faults]
    exact setpointsWithin_enterFault _ ⟨⟨h.in_force, h.stored, h.lawful.written⟩, h.enabled, h.history, h.live⟩

theorem setpointsWithin_takeFeedback (r : FeedbackRecord) (h : SetpointsWithin s) :
    SetpointsWithin (takeFeedback r s) := by
  unfold takeFeedback
  split
  · split
    · dsimp only
      split
      · rename_i config
        split
        · rename_i first
          have state : s.control.axisState = .waking := by simp_all
          exact setpointsWithin_capture config state (h.congr rfl)
        · exact h.congr rfl
      · exact h.congr rfl
    · exact h
  · exact h

theorem setpointsWithin_stopChange (active : Bool) (h : SetpointsWithin s) : SetpointsWithin (stopChange active s) := by
  have level : SetpointsWithin { s with stopInput := active } := h.congr rfl
  unfold stopChange
  dsimp only
  split
  · exact level
  · split
    · split
      · exact setpointsWithin_haltNode _ level.lawful (h.steered (.inl ‹_›))
      · exact level
    · split
      · rename_i halted
        exact setpointsWithin_of_placed (placed_enterLiveAt_setpoint (s := { s with stopInput := active })
          level.lawful (h.steered (.inr halted.1)))
      · exact level

/-- A captured node leaves WAKING with what it captured (R25). -/
theorem setpointsWithin_settleExpiry (h : SetpointsWithin s) : SetpointsWithin (settleExpiry s) := by
  unfold settleExpiry
  split
  · rename_i waking
    split
    · exact setpointsWithin_reportFault _ h
    · rename_i captured
      obtain ⟨history, live⟩ := h.captured waking.1 (by simpa using captured)
      split
      · have placed : (bearings (setRecentre s)).Placed := ⟨h.lawful, history, live⟩
        exact setpointsWithin_of_placed (placed_enterState _ placed)
      · exact setpointsWithin_haltNode _ h.lawful history
  · exact h

/-- An accepted CLEAR finds the last feedback within the limits (R35, R129, R143). -/
theorem setpointsWithin_takeClear (h : SetpointsWithin s) : SetpointsWithin (takeClear s).state := by
  unfold takeClear
  split
  · rename_i c x config feedback
    split
    · rename_i accepted
      have inside : Within c x := withinLimits_iff.mp (by simp_all [clearAccepted])
      have within (d : Configuration) (force : s.startup.config = some d) : Within d x := by
        rwa [← Option.some.inj (config.symm.trans force)]
      have chosen {u : State} (lawful : (bearings u).Lawful) (history : u.blend.history.isSome = true)
          (same : u.startup = s.startup) : SetpointsWithin (if u.stopInput then enterLiveAt x u
            else haltNode .stopInput { u with blend := { u.blend with live := some x } }) := by
        have within (d : Configuration) (force : u.startup.config = some d) : Within d x := within d (same ▸ force)
        split
        · exact setpointsWithin_of_placed (placed_enterLiveAt lawful history within)
        · exact setpointsWithin_haltNode _ (lawful.withLive within) history
      unfold clearFault
      dsimp only
      split
      · exact chosen h.lawful (h.enabled ‹_›) rfl
      · exact chosen (h.lawful.withHistory ⟨x, x⟩ s.drive.captured true fun d force => ⟨within d force, within d force⟩)
          rfl rfl
    · exact h
  · exact h

/-! ### WAKING, PARKED, and the configuration -/

/-- A node that holds no setpoints and whose state asks for none (R129). -/
theorem setpointsWithin_of_bare (h : (bearings s).Ordered) (enable : s.drive.enable = false)
    (history : s.blend.history = none) (live : s.blend.live = none)
    (idle : s.control.axisState = .setup ∨ s.control.axisState = .fault ∨ s.control.axisState = .parked ∨
      s.control.axisState = .waking ∧ s.drive.captured = false) : SetpointsWithin s :=
  setpointsWithin_iff.mpr ⟨h.lawful enable history live, fits_idle idle⟩

/-- WAKING is entered without setpoints and with the enable off (R129, R135, R136). -/
theorem setpointsWithin_enterWaking (h : (bearings s).Ordered) : SetpointsWithin (enterWaking s) := by
  have same : bearings (enterWaking s) = { bearings s with
      axisState := .waking, captured := false, enable := false, history := none, live := none } := by
    rw [enterWaking_eq, bearings_changeState]
    rfl
  refine setpointsWithin_of_bare ?_ (congrArg (·.enable) same) (congrArg (·.history) same) (congrArg (·.live) same)
    (.inr (.inr (.inr ⟨congrArg (·.axisState) same, congrArg (·.captured) same⟩)))
  rw [same]
  exact ⟨h.in_force, h.stored, h.written⟩

/-- A node that parks at rest gives up its setpoints with the enable (R36, R129, R135). -/
theorem setpointsWithin_parkNode (h : (bearings s).Ordered) : SetpointsWithin (parkNode s) := by
  have same : bearings (parkNode s) = { bearings s with
      axisState := .parked, enable := false, history := none, live := none } := by
    rw [parkNode, enterState_not_working rfl, bearings_changeState]
    rfl
  refine setpointsWithin_of_bare ?_ (congrArg (·.enable) same) (congrArg (·.history) same) (congrArg (·.live) same)
    (.inr (.inr (.inl (congrArg (·.axisState) same))))
  rw [same]
  exact ⟨h.in_force, h.stored, h.written⟩

/-- A node that loads takes its stored configuration into force (R177). -/
theorem setpointsWithin_loadingEnd (h : SetpointsWithin s) : SetpointsWithin (loadingEnd s) := by
  have loaded : (bearings (loadStore s)).Ordered := ⟨h.stored, h.stored, fun _ absent => nomatch absent⟩
  have first {t : State} {st : AxisState} (same : bearings t = { bearings (loadStore s) with axisState := st })
      (idle : st = .setup ∨ st = .fault) : SetpointsWithin t := by
    rw [setpointsWithin_iff, same]
    exact ⟨(loaded.lawful rfl rfl rfl).inState st, fits_idle (idle.imp_right .inl)⟩
  unfold loadingEnd
  split
  · unfold firstState
    split
    · dsimp only
      split <;> exact first (st := .fault) rfl (.inr rfl)
    · split
      · exact first (st := .setup) (bearings_queueState _) (.inl rfl)
      · split
        · exact first (st := .setup) (bearings_queueState _) (.inl rfl)
        · exact setpointsWithin_enterWaking loaded
  · exact h

/-- The record that a CONFIG_DONE has checked comes into force without setpoints (R180, R181). -/
theorem setpointsWithin_configWriteEnd (h : SetpointsWithin s) : SetpointsWithin (configWriteEnd s) := by
  rcases writing : s.startup.write with _ | w
  · simpa only [configWriteEnd, writing] using h
  have ordered (c : Configuration) (made : some w.record = some c) : LimitsOrdered c :=
    Option.some.inj made ▸ h.written w writing
  rw [configWriteEnd, writing]
  exact setpointsWithin_enterWaking ⟨ordered, ordered, fun _ absent => nomatch absent⟩

/-- A staged configuration that passes the check of LIMIT_HIGH makes a record with its limits in order (R180). -/
theorem limitsOrdered_configurationOf {st : StagedConfiguration} {c : Configuration}
    (checked : firstFailure st = none) (made : configurationOf st = some c) : LimitsOrdered c := by
  have passes : configFieldFails st 2 = false := by
    simpa using List.find?_eq_none.mp checked 2 (by decide)
  iterate 2 obtain ⟨_, _, made⟩ := Option.bind_eq_some_iff.mp made
  obtain ⟨low, limitLow, made⟩ := Option.bind_eq_some_iff.mp made
  obtain ⟨high, limitHigh, made⟩ := Option.bind_eq_some_iff.mp made
  iterate 15 obtain ⟨_, _, made⟩ := Option.bind_eq_some_iff.mp made
  obtain rfl := Option.some.inj made
  have limitHigh : st[(2 : ConfigField)] = some high := limitHigh
  simpa [configFieldFails, configFieldUsed, configRelationHolds, limitLow, limitHigh] using passes

/-- CONFIG_SET and CONFIG_DONE keep the law: a record is written only when its limits are in order (R179, R180). -/
theorem setpointsWithin_config {act : State → Answer} (o : Owner .config act) (h : SetpointsWithin s) :
    SetpointsWithin (act s).state := by
  cases o with
  | configSet args =>
    unfold takeConfigSet
    split
    · split
      · exact h
      · split
        · exact h
        · dsimp only
          split
          · exact h
          · exact h.congr rfl
    · exact h
  | configDone =>
    unfold takeConfigDone
    split
    · exact h
    · split
      · exact h
      · exact h
      · rename_i c checked made
        exact setpointsWithin_iff.mpr ⟨⟨⟨h.in_force, h.stored, fun d written =>
          Option.some.inj written ▸ limitsOrdered_configurationOf checked made⟩, h.enabled, h.history, h.live⟩,
          h.steered, h.positioned, h.captured⟩

theorem setpointsWithin_answered {k : CommandClass} {act : State → Answer} (o : Owner k act)
    (h : SetpointsWithin s) : SetpointsWithin (act s).state := by
  have edited {act : State → Answer} (o : Owner .edit act) : SetpointsWithin (act s).state := by
    obtain ⟨marks, slots, same⟩ := (o.markWork s).frame
    exact h.congr (by rw [same]; rfl)
  cases o with
  | markOpen head args => exact edited (.markOpen head args)
  | markSet head args => exact edited (.markSet head args)
  | markClose head args => exact edited (.markClose head args)
  | markErase args => exact edited (.markErase args)
  | save => exact edited .save
  | markRead args => rwa [takeMarkRead_state]
  | peerRead args => rwa [takePeerRead_state]
  | park =>
    unfold takePark
    split
    · exact setpointsWithin_parkNode h.lawful.toOrdered
    · exact h
  | wake => exact setpointsWithin_enterWaking h.lawful.toOrdered
  | clear => exact setpointsWithin_takeClear h
  | configSet args => exact setpointsWithin_config (.configSet args) h
  | configDone => exact setpointsWithin_config .configDone h
  | unknown => exact h

/-! ### The update -/

/-- The path stage takes an arrival in a state that steers the axis alone (R56, R58). -/
theorem setpointsWithin_pathStage (c : Configuration) (h : SetpointsWithin s) :
    SetpointsWithin (pathStage c s).1 := by
  rcases pathStage_cases c s with same | ⟨moves, r, moved | arrived⟩
  · rwa [same]
  · rw [moved]; exact h.congr rfl
  · have placed : (bearings (withRun r s)).Placed := h.placed (working_of_hasRun moves)
    rw [arrived]
    exact setpointsWithin_of_placed (placed_keptByArrivals.takeArrival placed)

/-- The live stage clamps the live position (R118). -/
theorem setpointsWithin_liveStage {c : Configuration} (config : s.startup.config = some c) (h : SetpointsWithin s) :
    SetpointsWithin (liveStage c s).1 := by
  unfold liveStage
  dsimp only
  split
  · exact h
  · exact h.congr rfl
  · split
    · exact h.congr rfl
    · refine setpointsWithin_iff.mpr ⟨h.lawful.withLive fun d force => ?_, h.steered, fun _ => rfl,
        fun state captured => ⟨(h.captured state captured).1, rfl⟩⟩
      rw [← Option.some.inj (config.symm.trans force)]
      exact within_clampInt (h.in_force c config) _

/-- The mix stage takes a setpoint of its history, within the limits (R124, R127). -/
theorem setpointsWithin_mixStage {c : Configuration} (path : Option Int) (clamped : Bool)
    (config : s.startup.config = some c) (h : SetpointsWithin s) :
    SetpointsWithin (mixStage c path clamped s).state := by
  have located : bearings (mixStage c path clamped s).state = { bearings s with
      history := (mixStage c path clamped s).state.blend.history,
      live := (mixStage c path clamped s).state.blend.live } := by
    rw [mixStage_state]; rfl
  by_cases idle : s.blend.history = none ∨ s.control.axisState = .setup ∨ s.control.axisState = .parked
  · obtain ⟨history, live, -⟩ := mixStage_takes_nothing c path clamped idle
    exact h.congr (by rw [located, history, live]; rfl)
  · push Not at idle
    obtain ⟨has, unset, unparked⟩ := idle
    obtain ⟨old, history⟩ := Option.ne_none_iff_exists'.mp has
    obtain ⟨x, setpoint, new, -, live⟩ := mixStage_takes c path clamped history unset unparked
    have inside := (h.history c old config history).1
    have within (d : Configuration) (force : s.startup.config = some d) : Within d x ∧ Within d old.prev := by
      rw [← Option.some.inj (config.symm.trans force)]
      exact ⟨setpoint.within (h.in_force c config) inside, inside⟩
    have lawful := h.lawful.withHistory ⟨x, old.prev⟩ s.drive.captured s.drive.enable within
    rw [setpointsWithin_iff, located, new]
    rcases live with live | live
    · rw [live]
      exact ⟨lawful, fun _ => rfl, h.positioned, fun state captured => ⟨rfl, (h.captured state captured).2⟩⟩
    · rw [live]
      exact ⟨lawful.withLive fun d force => (within d force).1, fun _ => rfl, fun _ => rfl, fun _ _ => ⟨rfl, rfl⟩⟩

/-- HALTED and RELEASING end in LIVE with setpoints and live position (R31, R33). -/
theorem setpointsWithin_takeReports (m : MixResult) (h : SetpointsWithin s) : SetpointsWithin (takeReports m s) := by
  unfold takeReports
  split
  · rename_i state
    split
    · exact setpointsWithin_of_placed (placed_enterLiveAt_setpoint h.lawful (h.steered (.inr state)))
    · exact h
  · rename_i state
    split
    · exact h.steers (by rw [state]; rfl) (placed_enterState _)
    · exact h
  · exact h

theorem setpointsWithin_update (h : SetpointsWithin s) : SetpointsWithin (update s) := by
  unfold update
  split
  · rename_i c _ config _
    have worked : SetpointsWithin (paceWork c { s with blend.timer := some 0 }) := h.congr rfl
    have checked := (setpointsWithin_pathStage c worked).congr (bearings_paceCheck _)
    have same : standing (paceCheck (pathStage c (paceWork c { s with blend.timer := some 0 })).1) = standing s := by
      simp only [standing_paceCheck, standing_pathStage, standing_paceWork]; rfl
    have force := (congrArg (·.startup.config) same).trans config
    exact setpointsWithin_takeReports _ (setpointsWithin_exchangeStage c _ (setpointsWithin_mixStage _ _
      ((congrArg (·.startup.config) (standing_liveStage c _)).trans force) (setpointsWithin_liveStage force checked)))
  · exact h

/-! ### Every step -/

theorem setpointsWithin_event {f : State → State} (e : Event f) (h : SetpointsWithin s) : SetpointsWithin (f s) := by
  cases e with
  | update => exact setpointsWithin_update h
  | paceInterval => exact h.congr (bearings_paceInterval s)
  | driveLost => exact setpointsWithin_reportDrive _ (h.congr rfl)
  | following => exact setpointsWithin_reportDrive _ (h.congr rfl)
  | feedback r => exact setpointsWithin_takeFeedback r h
  | stopChange active => exact setpointsWithin_stopChange active h
  | settle => exact setpointsWithin_settleExpiry h
  | armExpiry => exact setpointsWithin_armExpiry h
  | staleDemand => exact h.congr (bearings_staleDemand s)
  | staleDial => exact h.congr rfl
  | releaseChannel ch => exact h.congr (bearings_releaseChannel ch s)
  | grab => exact setpointsWithin_grabExpiry h
  | losePeer a => exact setpointsWithin_losePeer a h
  | lease => exact h.congr rfl
  | slotWrite => exact h.congr (bearings_slotWriteEnd s)
  | configWrite => exact setpointsWithin_configWriteEnd h
  | stateInterval => exact h.congr (bearings_stateInterval s)
  | sendStart => exact h.congr (bearings_startFrame s)
  | lostContention => exact h.congr (bearings_loseContention s)
  | echoError => exact setpointsWithin_takeEchoError h
  | drop => exact setpointsWithin_dropEvent h
  | sentIntact => exact h.congr (bearings_frameSent s)
  | clash => exact setpointsWithin_reportClash h

/-- Every operation of the node keeps the law (R118, R124, R129, R180). -/
theorem setpointsWithin_kept : KeptByNode SetpointsWithin where
  queue _ _ h := h.congr rfl
  reset _ h := setpointsWithin_of_bare ⟨fun _ absent => (nomatch absent), h.stored, fun _ absent => (nomatch absent)⟩
    rfl rfl rfl (.inl rfl)
  release _ _ s h := by
    unfold releaseReset
    split <;> exact h.congr rfl
  loading _ _ _ _ h := h.congr rfl
  loaded _ := setpointsWithin_loadingEnd
  pin _ _ _ h := h.congr rfl
  aged s _ h := by
    have written : (s.startup.write.map fun w => { w with elapsed := countUp configWriteMs w.elapsed }).map (·.record) =
        s.startup.write.map (·.record) := by cases s.startup.write <;> rfl
    exact h.congr (congrArg (fun w => { bearings s with written := w }) written)
  event _ e _ _ := setpointsWithin_event e
  heard a record s _ _ h := h.congr (bearings_hear a record s)
  handled _ e _ _ := setpointsWithin_handled e
  refused _ _ _ _ h := h.congr rfl
  answered _ _ o _ _ _ _ _ h := SetpointsWithin.congr (setpointsWithin_answered o h) rfl

/-- Settles O57: what every operation of the node keeps, its steps keep. -/
theorem stepKeepsSetpointsWithin : Obligations.StepKeepsSetpointsWithin :=
  fun _ _ h step => setpointsWithin_kept.step h step

end

end Sys2Proof.Machine
end

section
/-! ## The stages of an update (R112)

The path stage, the PACE check and the live stage leave what the mix stage and the drive exchange read; the exchange and
the reports leave the setpoints. -/

namespace Sys2Proof.Machine

variable {c : Configuration} {s : State}

/-! ### An update touches no store -/

/-- Settles O18: each stage leaves the standing part, and without a timer or a configuration none runs. -/
theorem updateTouchesNoStore : Obligations.UpdateTouchesNoStore := by
  intro s
  have same : standing (whenRunning update s) = standing s := by
    unfold whenRunning
    split
    · exact standing_update s
    · rfl
  refine ⟨whenRunning update s, rfl, congrArg (·.startup) same, congrArg (·.nonvolatile) same,
    congrArg (·.stopInput) same, congrArg (·.marks) same, congrArg (·.peers) same, congrArg (·.pending) same,
    congrArg (·.demand) same, congrArg (·.dial) same, congrArg (·.deflection) same, congrArg (·.replies) same,
    congrArg (·.echoErrors) same, congrArg (·.line) same, fun stopped => ?_⟩
  have idle : update s = s := by
    unfold update
    split
    · rename_i config timer
      rcases stopped with absent | absent
      · exact nomatch absent.symm.trans config
      · exact nomatch absent.symm.trans timer
    · rfl
  unfold whenRunning
  rw [idle, ite_self]

/-! ### Up to the mix stage -/

/-- The state that the mix stage of an update finds. -/
def beforeMix (c : Configuration) (s : State) : State := (liveStage c (paceCheck (pathStage c (paceWork c s)).1)).1

/-- What the mix stage of an update makes of it. -/
def mixed (c : Configuration) (s : State) : MixResult :=
  mixStage c (pathStage c (paceWork c s)).2 (liveStage c (paceCheck (pathStage c (paceWork c s)).1)).2 (beforeMix c s)

/-- After the mix stage come the drive exchange and the reports (R112). -/
theorem runUpdate_eq (c : Configuration) (s : State) :
    runUpdate c s = takeReports (mixed c s) (exchangeStage c (mixed c s).pair (mixed c s).state) := rfl

theorem steady_paceCheck (s : State) : steady (paceCheck s) = steady s := by
  unfold paceCheck sendPace
  split
  · split <;> rfl
  · rfl

theorem steady_liveStage (c : Configuration) (s : State) : steady (liveStage c s).1 = steady s := by
  obtain ⟨_, _, _, lived⟩ := liveStage_frame c s
  rw [lived]; rfl

theorem steady_beforeMix (c : Configuration) (s : State) : steady (beforeMix c s) = steady (paceWork c s) := by
  rw [beforeMix, steady_liveStage, steady_paceCheck, steady_pathStage]

theorem beforeMix_history (c : Configuration) (s : State) : (beforeMix c s).blend.history = s.blend.history :=
  congrArg Steady.history (steady_beforeMix c s)

/-- The mix stage finds the Veff of this update's pace work (R79, R87). -/
theorem beforeMix_veff (c : Configuration) (s : State) : (beforeMix c s).pace.veff = some (veffOf c s.peers) :=
  congrArg Steady.veff (steady_beforeMix c s)

/-- The drive link is as it was, but for the fault cause, which an arrival into another state drops. -/
theorem beforeMix_drive (c : Configuration) (s : State) :
    { (beforeMix c s).drive with faultCause := none } = { s.drive with faultCause := none } :=
  congrArg Steady.drive (steady_beforeMix c s)

theorem beforeMix_control (c : Configuration) (s : State) :
    (beforeMix c s).control = (pathStage c (paceWork c s)).1.control :=
  congrArg Prod.fst (liveStage_paceCheck_frame c (pathStage c (paceWork c s)).1).1

theorem beforeMix_axisState (c : Configuration) (s : State) :
    (beforeMix c s).control.axisState = s.control.axisState ∨ (working s.control.axisState = true ∧
      (working (beforeMix c s).control.axisState = true ∨ (beforeMix c s).control.axisState = .halted)) := by
  rw [beforeMix_control]
  exact pathStage_axisState c (paceWork c s)

/-- Without a run the path stage does nothing, and run control and the drive link are as they were (R56). -/
theorem beforeMix_without_run (still : hasRun s.control.axisState = false) :
    (beforeMix c s).control = s.control ∧ (beforeMix c s).drive = s.drive := by
  obtain ⟨settles, drive, -⟩ := liveStage_paceCheck_frame c (pathStage c (paceWork c s)).1
  have control := congrArg Prod.fst settles
  rw [pathStage_without_run (s := paceWork c s) still] at control drive
  rw [beforeMix, pathStage_without_run (s := paceWork c s) still]
  exact ⟨control, drive⟩

/-- No update enters or leaves SETUP, PARKED, WAKING or FAULT before the mix stage. -/
theorem beforeMix_axisState_ne {st : AxisState} (idle : working st = false) (other : st ≠ .halted)
    (out : s.control.axisState ≠ st) : (beforeMix c s).control.axisState ≠ st := by
  rintro rfl
  rcases beforeMix_axisState c s with same | ⟨-, steers | halted⟩
  · exact out same.symm
  · exact absurd (steers.symm.trans idle) nofun
  · exact other halted

theorem mixed_state (c : Configuration) (s : State) :
    (mixed c s).state = { beforeMix c s with blend := (mixed c s).state.blend } := mixStage_state c _ _ (beforeMix c s)

/-- Outside SETUP and PARKED a node that holds setpoints takes one (R113, R127, R129). -/
theorem mixed_takes {h : History} (history : s.blend.history = some h) (unset : s.control.axisState ≠ .setup)
    (unparked : s.control.axisState ≠ .parked) : TakesSetpoint c h (beforeMix c s) (mixed c s) :=
  mixStage_takes c _ _ ((beforeMix_history c s).trans history) (beforeMix_axisState_ne rfl nofun unset)
    (beforeMix_axisState_ne rfl nofun unparked)

/-! ### After it -/

/-- The setpoints, the limited flag and the live position. -/
def placing (s : State) : Option History × Bool × Option Int := (s.blend.history, s.blend.limited, s.blend.live)

theorem placing_reportDrive (cause : FaultCause) (s : State) : placing (reportDrive cause s) = placing s :=
  reportDrive_cases (Q := fun t => placing t = placing s) cause rfl
    (reportFault_cases (Q := fun t => placing t = placing s) cause rfl (fun _ _ => rfl) (fun _ _ => rfl)
      (by simp [placing, enterFault]))

/-- The drive exchange moves nothing, whatever its checks find (R132 to R138). -/
theorem placing_exchangeStage (c : Configuration) (pair : Option (Int × Int)) (s : State) :
    placing (exchangeStage c pair s) = placing s := by
  obtain ⟨_, _, sent⟩ := sendRecord_opens pair (closeExchange c s)
  have closed : placing (closeExchange c s) = placing s :=
    closeExchange_keeps (Q := fun t => placing t = placing s) rfl
      fun cause t same => (placing_reportDrive cause t).trans same
  rw [exchangeStage, sent, ← closed]
  rfl

@[simp] theorem steady_takeReports (m : MixResult) (s : State) : steady (takeReports m s) = steady s := by
  unfold takeReports
  split
  · split <;> simp
  · split <;> simp
  · rfl

theorem runUpdate_history (c : Configuration) (s : State) :
    (runUpdate c s).blend.history = (mixed c s).state.blend.history :=
  (congrArg Steady.history (steady_takeReports _ _)).trans (congrArg Prod.fst (placing_exchangeStage c _ _))

theorem runUpdate_limited (c : Configuration) (s : State) :
    (runUpdate c s).blend.limited = (mixed c s).state.blend.limited :=
  (congrArg Steady.limited (steady_takeReports _ _)).trans (congrArg (·.2.1) (placing_exchangeStage c _ _))

/-- After the exchange the drive link is left alone, but for the fault cause (R31, R33). -/
theorem runUpdate_drive (c : Configuration) (s : State) :
    { (runUpdate c s).drive with faultCause := none } =
      { (exchangeStage c (mixed c s).pair (mixed c s).state).drive with faultCause := none } :=
  congrArg Steady.drive (steady_takeReports _ _)

/-! ### The setpoint laws -/

/-- The mix stage hands the drive link on as the update found it, but for the fault cause. -/
theorem mixed_drive (c : Configuration) (s : State) :
    { (mixed c s).state.drive with faultCause := none } = { s.drive with faultCause := none } := by
  rw [mixed_state]
  exact beforeMix_drive c s

/-- The exchange is opened under the number that the update found (R132). -/
theorem closeExchange_mixed_seq (c : Configuration) (s : State) :
    (closeExchange c (mixed c s).state).drive.seq = s.drive.seq :=
  (congrArg (·.seq) (faultless_closeExchange c (mixed c s).state)).trans (congrArg (·.seq) (mixed_drive c s))

/-- Settles O22: the mix stage takes a setpoint of the history, the exchange sends that one or none, and nothing else of
the update touches either. -/
theorem updateKeepsTheSetpointLaws : Obligations.UpdateKeepsTheSetpointLaws := by
  intro c h n s running config timer history ordered prev prev2 cap last
  set u : State := { s with blend := { s.blend with timer := some 0 } } with isU
  have drive := runUpdate_drive c u
  have sent {q : Byte} {x ff : Int} (goes : (runUpdate c u).drive.sent = some (.setpoint q x ff)) :
      q = s.drive.seq ∧ (mixed c u).pair = some (x, ff) := by
    obtain ⟨seq, pair⟩ := sendRecord_sent (((congrArg (·.sent) drive).symm.trans goes :))
    exact ⟨seq.trans (closeExchange_mixed_seq c u), pair⟩
  by_cases idle : s.control.axisState = .setup ∨ s.control.axisState = .parked
  · have still : (beforeMix c u).control = s.control :=
      (beforeMix_without_run (c := c) (s := u) (by rcases idle with e | e <;> rw [isU, e] <;> rfl)).1
    obtain ⟨stands, -, bare⟩ := mixStage_takes_nothing (s := beforeMix c u) c _ _ (.inr (by rwa [still]))
    refine ⟨_, h, exec_update running config timer, ?_, prev, prev2, last, .inr rfl, fun q x ff goes => ?_⟩
    · exact (runUpdate_history c u).trans (stands.trans ((beforeMix_history c u).trans history))
    · exact nomatch bare.symm.trans (sent goes).2
  · push Not at idle
    obtain ⟨x, setpoint, new, pair, -⟩ := mixed_takes (c := c) (s := u) history idle.1 idle.2
    rw [beforeMix_veff] at setpoint
    refine ⟨_, ⟨x, h.prev⟩, exec_update running config timer, (runUpdate_history c u).trans new,
      setpoint.within ordered prev, prev, setpoint.step_le prev last (velocityCap_mono c (veffOf_le c _)), .inl rfl,
      fun q y ff goes => ?_⟩
    obtain ⟨seq, sends⟩ := sent goes
    obtain ⟨rfl, rfl⟩ := Prod.mk.inj (Option.some.inj (pair.symm.trans sends))
    exact ⟨seq, rfl, feedForward_exact c _⟩

/-! ### The exchange of an update (R132 to R141) -/

theorem mixed_control (c : Configuration) (s : State) : (mixed c s).state.control = (beforeMix c s).control := by
  rw [mixed_state]

/-- The counts read nothing of the fault cause (R134). -/
theorem mixed_closedCounts (c : Configuration) (s : State) :
    closedCounts c (mixed c s).state.drive = closedCounts c s.drive := by
  have same := congrArg (closedCounts c) (mixed_drive c s)
  exact same

theorem mixed_lost_iff : Lost c (mixed c s).state.drive ↔ Lost c s.drive := by
  have missed : (mixed c s).state.drive.missed = s.drive.missed := congrArg (·.missed) (mixed_drive c s)
  rw [Lost, Lost, mixed_closedCounts, missed]

theorem mixed_lagging_iff : Lagging c (mixed c s).state.drive ↔ Lagging c s.drive := by
  have following : (mixed c s).state.drive.following = s.drive.following := congrArg (·.following) (mixed_drive c s)
  rw [Lagging, Lagging, mixed_closedCounts, following]

/-- The exchange is closed on the counts, whatever a check finds, and a new one opened under the next number
(R132, R134). -/
theorem runUpdate_exchanges (c : Configuration) (s : State) :
    let d := (runUpdate c s).drive
    d.seq = s.drive.seq + 1 ∧ d.answer = none ∧ d.lastFeedback = s.drive.lastFeedback ∧
      d.missed = (closedCounts c s.drive).1 ∧ d.following = (closedCounts c s.drive).2 ∧
      ∃ e, d.exchange = some e ∧ e.seq = s.drive.seq := by
  obtain ⟨x, r, opens⟩ := sendRecord_opens (mixed c s).pair (closeExchange c (mixed c s).state)
  have drive := runUpdate_drive c s
  rw [exchangeStage, opens] at drive
  have closed := faultless_closeExchange c (mixed c s).state
  have before := mixed_drive c s
  have seq := closeExchange_mixed_seq c s
  have feedback : (closeExchange c (mixed c s).state).drive.lastFeedback = s.drive.lastFeedback :=
    (congrArg (·.lastFeedback) closed).trans (congrArg (·.lastFeedback) before)
  have counts := mixed_closedCounts c s
  have missed : (closeExchange c (mixed c s).state).drive.missed = (closedCounts c s.drive).1 :=
    (congrArg (·.missed) closed).trans (congrArg Prod.fst counts)
  have following : (closeExchange c (mixed c s).state).drive.following = (closedCounts c s.drive).2 :=
    (congrArg (·.following) closed).trans (congrArg Prod.snd counts)
  exact ⟨(congrArg (·.seq) drive).trans (congrArg (· + 1) seq), congrArg (·.answer) drive,
    (congrArg (·.lastFeedback) drive).trans feedback, (congrArg (·.missed) drive).trans missed,
    (congrArg (·.following) drive).trans following, ⟨_, congrArg (·.exchange) drive, seq⟩⟩

theorem runUpdate_enable (c : Configuration) (s : State) :
    (runUpdate c s).drive.enable = (closeExchange c (mixed c s).state).drive.enable := by
  obtain ⟨x, r, opens⟩ := sendRecord_opens (mixed c s).pair (closeExchange c (mixed c s).state)
  have drive := runUpdate_drive c s
  rw [exchangeStage, opens] at drive
  exact congrArg (·.enable) drive

/-- With the enable output off a request record goes out (R132). -/
theorem runUpdate_requests (off : (runUpdate c s).drive.enable = false) :
    (runUpdate c s).drive.exchange = some ⟨s.drive.seq, none⟩ ∧
      (runUpdate c s).drive.sent = some (.request s.drive.seq) := by
  have drive := runUpdate_drive c s
  rw [runUpdate_enable] at off
  rw [exchangeStage, sendRecord_request (.inl off)] at drive
  rw [← closeExchange_mixed_seq c s]
  exact ⟨congrArg (·.exchange) drive, congrArg (·.sent) drive⟩

/-- With it on, a setpoint that the mix stage has taken goes out with its feed-forward (R130, R132). -/
theorem runUpdate_sends_setpoint {x ff : Int} (on : (runUpdate c s).drive.enable = true)
    (pair : (mixed c s).pair = some (x, ff)) :
    (runUpdate c s).drive.exchange = some ⟨s.drive.seq, some x⟩ ∧
      (runUpdate c s).drive.sent = some (.setpoint s.drive.seq x ff) := by
  have drive := runUpdate_drive c s
  rw [runUpdate_enable] at on
  rw [exchangeStage, pair, sendRecord_setpoint on] at drive
  rw [← closeExchange_mixed_seq c s]
  exact ⟨congrArg (·.exchange) drive, congrArg (·.sent) drive⟩

/-! ### The drive checks of an update (R137, R138, R140, R141) -/

/-- The drive checks look at the node and find it in no fault yet (R136, R137, R138). -/
abbrev Checked (s : State) : Prop :=
  s.control.axisState ≠ .setup ∧ s.control.axisState ≠ .parked ∧ s.control.axisState ≠ .fault ∧
    (s.control.axisState = .waking → s.drive.captured = true)

theorem reportDrive_checked (cause : FaultCause) (checked : Checked s) : reportDrive cause s = enterFault cause s := by
  obtain ⟨unset, unparked, sound, captured⟩ := checked
  have looks : driveChecked s = true := by
    unfold driveChecked
    split
    · exact absurd ‹_› unset
    · exact absurd ‹_› unparked
    · exact captured ‹_›
    · rfl
  have enters : reportFault cause s = enterFault cause s := by
    unfold reportFault
    split
    · exact absurd ‹_› unset
    · exact absurd ‹_› unparked
    · exact absurd ‹_› sound
    · rfl
  rw [reportDrive, if_pos looks, enters]

/-- The path stage does not take a node out of the checks' sight (R136). -/
theorem checked_mixed (checked : Checked s) : Checked (mixed c s).state := by
  obtain ⟨unset, unparked, sound, captured⟩ := checked
  have was : (mixed c s).state.drive.captured = s.drive.captured := congrArg (·.captured) (mixed_drive c s)
  rw [Checked, mixed_control, was]
  exact ⟨beforeMix_axisState_ne rfl nofun unset, beforeMix_axisState_ne rfl nofun unparked,
    beforeMix_axisState_ne rfl nofun sound,
    fun waking => captured (by_contra fun out => beforeMix_axisState_ne (st := .waking) rfl nofun out waking)⟩

/-- A node that an exchange leaves in FAULT ends its update there, with the cause and the HALT (R34). -/
theorem runUpdate_faulted (fault : (closeExchange c (mixed c s).state).control.axisState = .fault) :
    (runUpdate c s).control.axisState = .fault ∧
      (runUpdate c s).drive.faultCause = (closeExchange c (mixed c s).state).drive.faultCause ∧
      (runUpdate c s).bus.haltSlot = (closeExchange c (mixed c s).state).bus.haltSlot := by
  obtain ⟨x, r, opens⟩ := sendRecord_opens (mixed c s).pair (closeExchange c (mixed c s).state)
  have stays : runUpdate c s = sendRecord (mixed c s).pair (closeExchange c (mixed c s).state) := by
    have state : (sendRecord (mixed c s).pair (closeExchange c (mixed c s).state)).control.axisState = .fault := by
      rw [opens]; exact fault
    rw [runUpdate_eq, exchangeStage]
    exact takeReports_stands (fun halted => nomatch state.symm.trans halted)
      (fun releasing => nomatch state.symm.trans releasing)
  rw [stays, opens]
  exact ⟨fault, rfl, rfl⟩

/-- A check that trips where the checks look enters FAULT (R34, R135, R140). -/
theorem runUpdate_enterFault {cause : FaultCause}
    (closed : closeExchange c (mixed c s).state = enterFault cause (counted c (mixed c s).state)) :
    (runUpdate c s).control.axisState = .fault ∧ (runUpdate c s).drive.faultCause = some cause ∧
      (runUpdate c s).drive.enable = (s.drive.enable && !enableOffCause cause) ∧
      (s.drive.permanent = false → (runUpdate c s).bus.haltSlot = some cause) := by
  have enable : (mixed c s).state.drive.enable = s.drive.enable := congrArg (·.enable) (mixed_drive c s)
  have permanent : (mixed c s).state.drive.permanent = s.drive.permanent := congrArg (·.permanent) (mixed_drive c s)
  have state : (closeExchange c (mixed c s).state).control.axisState = .fault := by
    rw [closed]; simp [enterFault]
  obtain ⟨fault, recorded, halted⟩ := runUpdate_faulted state
  rw [closed] at recorded halted
  refine ⟨fault, recorded.trans ?_, ?_, fun passing => halted.trans ?_⟩
  · simp [enterFault]
  · rw [runUpdate_enable, closed, ← enable]
    simp [enterFault, counted]
  · simp [enterFault, counted, queueHalt, permanent, passing]

theorem runUpdate_lost (checked : Checked s) (lost : Lost c s.drive) :
    (runUpdate c s).control.axisState = .fault ∧ (runUpdate c s).drive.faultCause = some .driveLost ∧
      (runUpdate c s).drive.enable = false ∧
      (s.drive.permanent = false → (runUpdate c s).bus.haltSlot = some .driveLost) := by
  have closed : closeExchange c (mixed c s).state = enterFault .driveLost (counted c (mixed c s).state) := by
    rw [closeExchange_eq, if_pos (mixed_lost_iff.mpr lost)]
    exact reportDrive_checked _ (s := counted c (mixed c s).state) (checked_mixed checked)
  obtain ⟨fault, recorded, off, halted⟩ := runUpdate_enterFault closed
  exact ⟨fault, recorded, off.trans (Bool.and_false _), halted⟩

theorem runUpdate_lagging (checked : Checked s) (lagging : Lagging c s.drive) :
    (runUpdate c s).control.axisState = .fault ∧ (runUpdate c s).drive.faultCause = some .following ∧
      (runUpdate c s).drive.enable = s.drive.enable ∧
      (s.drive.permanent = false → (runUpdate c s).bus.haltSlot = some .following) := by
  have present : ¬ Lost c (mixed c s).state.drive := fun lost => not_lagging_of_lost (mixed_lost_iff.mp lost) lagging
  have closed : closeExchange c (mixed c s).state = enterFault .following (counted c (mixed c s).state) := by
    rw [closeExchange_eq, if_neg present, if_pos (mixed_lagging_iff.mpr lagging)]
    exact reportDrive_checked _ (s := counted c (mixed c s).state) (checked_mixed checked)
  obtain ⟨fault, recorded, on, halted⟩ := runUpdate_enterFault closed
  exact ⟨fault, recorded, on.trans (Bool.and_true _), halted⟩

/-- The causes whose place a lost drive takes in FAULT (R141). -/
abbrev Lesser (d : DriveLink) : Prop :=
  d.faultCause = some .following ∨ d.faultCause = some .link ∨
    (d.faultCause = some .addressClash ∧ d.permanent = false)

theorem reportInFault_lost (lesser : Lesser s.drive) : reportInFault .driveLost s =
    { s with drive := { s.drive with faultCause := some .driveLost, enable := false } } := by
  rcases lesser with cause | cause | ⟨cause, passing⟩
  · simp only [reportInFault, cause]
  · simp only [reportInFault, cause]
  · simp only [reportInFault, cause, passing, Bool.false_eq_true, if_false]

/-- A drive lost in FAULT takes the place of a lesser cause (R141). -/
theorem runUpdate_lost_in_fault (state : s.control.axisState = .fault) (lost : Lost c s.drive)
    (lesser : Lesser s.drive) :
    (runUpdate c s).drive.faultCause = some .driveLost ∧ (runUpdate c s).drive.enable = false := by
  obtain ⟨control, drive⟩ := beforeMix_without_run (c := c) (s := s) (by rw [state]; rfl)
  have fault : (mixed c s).state.control.axisState = .fault := by rw [mixed_control, control, state]
  have causes : Lesser (counted c (mixed c s).state).drive := by
    have same : (mixed c s).state.drive = s.drive := by rw [mixed_state]; exact drive
    change Lesser (mixed c s).state.drive
    rwa [same]
  have closed : closeExchange c (mixed c s).state = { counted c (mixed c s).state with
      drive := { (counted c (mixed c s).state).drive with faultCause := some .driveLost, enable := false } } := by
    have looks : driveChecked (counted c (mixed c s).state) = true := by
      simp only [driveChecked, counted, fault]
    rw [closeExchange_eq, if_pos (mixed_lost_iff.mpr lost), reportDrive, if_pos looks, ← reportInFault_lost causes]
    simp only [reportFault, counted, fault]
  have stays : (closeExchange c (mixed c s).state).control.axisState = .fault := by rw [closed]; exact fault
  rw [runUpdate_enable, (runUpdate_faulted stays).2.1, closed]
  exact ⟨rfl, rfl⟩

/-- Settles O24: the counts, the checks that they trip, and the record that goes out, each from its own stage. -/
theorem updateClosesAndOpensAnExchange : Obligations.UpdateClosesAndOpensAnExchange := by
  intro c n s running config timer d st missed following checked lost lagging
  set u : State := { s with blend := { s.blend with timer := some 0 } }
  have counts : closedCounts c d = (missed, following) := by
    unfold closedCounts missed following
    rcases d.exchange with _ | e
    · rfl
    · rcases d.answer with _ | a
      · rfl
      · cases ready : a.ready <;> simp only [ready, if_true, Bool.false_eq_true, if_false] <;> rfl
  have isLost : lost → Lost c d := fun h => by rw [Lost, counts]; exact h
  have isLagging : lagging → Lagging c d := fun h => by rw [Lagging, counts]; exact h
  obtain ⟨seq, answer, feedback, misses, follows, opens⟩ := runUpdate_exchanges c u
  have was : (mixed c u).state.drive.enable = d.enable := congrArg (·.enable) (mixed_drive c u)
  obtain ⟨noneOn, kept⟩ := closeExchange_enable c (mixed c u).state
  rw [← runUpdate_enable, was] at noneOn kept
  refine ⟨runUpdate c u, exec_update running config timer, seq, answer, feedback,
    misses.trans (congrArg Prod.fst counts), follows.trans (congrArg Prod.snd counts), opens,
    fun looks tripped => runUpdate_lost (s := u) looks (isLost tripped),
    fun looks tripped => runUpdate_lagging (s := u) looks (isLagging tripped),
    fun fault tripped lesser => runUpdate_lost_in_fault (s := u) fault (isLost tripped) lesser,
    runUpdate_requests, fun off => ?_, fun on present => ?_, fun h on history unset unparked => ?_⟩
  · exact Bool.eq_false_iff.mpr fun on => nomatch off.symm.trans (noneOn on)
  · refine (kept fun lost => present ?_).trans on
    rw [mixed_lost_iff] at lost
    rw [Lost, show closedCounts c u.drive = (missed, following) from counts] at lost
    exact lost
  · obtain ⟨x, -, new, pair, -⟩ := mixed_takes (c := c) (s := u) history unset unparked
    obtain ⟨exchange, sent⟩ := runUpdate_sends_setpoint on pair
    exact ⟨⟨x, h.prev⟩, _, (runUpdate_history c u).trans new, exchange, sent, feedForward_exact c _⟩

end Sys2Proof.Machine
end
section
/-! ## The mix and the chain of limits (R115, R119 to R126) -/

namespace Sys2Proof.Machine

/-! ### The mix (R119) -/

/-- The share of the way from the live position that the weight takes. -/
theorem mixOf_eq (live path trim : Int) (w : Nat) :
    mixOf live path trim w = live + roundHalfAway ((path + trim - live : Int) * w / 4096) := by
  rw [mixOf, roundDiv_eq_roundHalfAway _ (by decide)]
  push_cast [fullWeight]
  rfl

theorem mixOf_zero (live path trim : Int) : mixOf live path trim 0 = live := by simp [mixOf_eq]

theorem mixOf_full (live path trim : Int) : mixOf live path trim 4096 = path + trim := by
  have whole : ((path + trim - live : Int) * (4096 : Nat) / 4096 : ℚ) = (path + trim - live : Int) := by
    push_cast; ring
  rw [mixOf_eq, whole, roundHalfAway_intCast, add_sub_cancel]

/-- At every weight the mix lies between the live position and the path with the trim. -/
theorem mixOf_between (live path trim : Int) {w : Nat} (within : w ≤ 4096) :
    min live (path + trim) ≤ mixOf live path trim w ∧ mixOf live path trim w ≤ max live (path + trim) := by
  rw [mixOf_eq]
  set d := path + trim - live with way
  have full : (w : ℚ) / 4096 ≤ 1 := by
    rw [div_le_one (by norm_num)]; exact_mod_cast within
  have nonneg : (0 : ℚ) ≤ w / 4096 := by positivity
  have share : (d : ℚ) * w / 4096 = d * (w / 4096) := mul_div_assoc _ _ _
  rw [share]
  rcases le_total 0 d with up | down
  · have up' : (0 : ℚ) ≤ d := by exact_mod_cast up
    have low := roundHalfAway_nonneg (mul_nonneg up' nonneg)
    have high := roundHalfAway_mono (mul_le_of_le_one_right up' full)
    rw [roundHalfAway_intCast] at high
    omega
  · have down' : (d : ℚ) ≤ 0 := by exact_mod_cast down
    have high := roundHalfAway_mono (mul_nonpos_of_nonpos_of_nonneg down' nonneg)
    have low : roundHalfAway d ≤ roundHalfAway (d * (w / 4096)) := roundHalfAway_mono (by nlinarith)
    rw [roundHalfAway_intCast] at low
    rw [roundHalfAway_zero] at high
    omega

/-! ### The caps (R122) -/

/-- The search is wide enough to find the whole root (R122). -/
theorem squareRoot_eq_sqrt (bound : Nat) : squareRoot bound = Nat.sqrt bound := by
  have falls (m n : Nat) (le : m ≤ n) (holds : decide (n * n ≤ bound) = true) : decide (m * m ≤ bound) = true := by
    rw [decide_eq_true_iff] at holds ⊢
    exact le_trans (Nat.mul_le_mul le le) holds
  have found {k : Nat} (inside : k < 0 + 2 ^ (bound.log2 / 2 + 1)) : k ≤ squareRoot bound ↔ k * k ≤ bound := by
    rw [squareRoot, le_largest_iff falls (by simp) inside, decide_eq_true_iff]
  have wide : Nat.sqrt bound < 0 + 2 ^ (bound.log2 / 2 + 1) := by
    rw [zero_add, Nat.sqrt_lt', ← pow_mul]
    exact Nat.lt_log2_self.trans_le (Nat.pow_le_pow_right (by norm_num) (by omega))
  refine le_antisymm (Nat.le_sqrt.mpr ((found (largest_lt _ _ _)).mp le_rfl)) ((found wide).mpr (Nat.sqrt_le _))

theorem approachDistance_eq (c : Configuration) (prev step : Int) :
    approachDistance c prev step = (if 0 < step then c.limitHigh - prev else prev - c.limitLow).toNat := by
  unfold approachDistance
  split <;> rfl

/-- A step keeps its sign and is cut to the least of its caps (R121, R122). -/
theorem capStep_eq (c : Configuration) (veff aStep : Nat) (prev step : Int) :
    capStep c veff aStep prev step = step.sign * min step.natAbs (min (velocityCap c veff)
      (Nat.sqrt (2 * aStep * (if 0 < step then c.limitHigh - prev else prev - c.limitLow).toNat))) := by
  rw [← approachDistance_eq, ← squareRoot_eq_sqrt]
  unfold capStep
  split
  · rename_i still; simp [still]
  · simp [withSign, approachCap]

/-- The chain of limits from the capped step on (R120, R123, R124, R125). -/
theorem limitChain_of_capped {c : Configuration} {veff aStep : Nat} {h : History} {mix capped : Int} (trim : Int)
    (caps : capStep c veff aStep h.prev (clampInt c.limitLow c.limitHigh mix - h.prev) = capped) :
    limitChain c veff aStep h trim mix =
      let inside := clampInt c.limitLow c.limitHigh mix
      let step := clampAcceleration aStep (h.prev - h.prev2) capped
      let setpoint := clampInt c.limitLow c.limitHigh (h.prev + step)
      { setpoint := setpoint, trim := unwindTrim (mix - inside).natAbs trim,
        limited := inside != mix || capped != inside - h.prev || step != capped || setpoint != h.prev + step } := by
  subst caps
  rfl

/-! ### The mix stage's outcome -/

section
variable {c : Configuration} {s : State}

/-- What the mix leaves in the blend engine, with the limit chain of its weight and its figures (R115, R119 to R126). -/
theorem mixedUpdate_blend (c : Configuration) (path : Option Int) (h : History) (s : State) :
    let st := s.control.axisState
    let w := if hasRun st then stepWeight s.blend.weightStep s.blend.weight s.blend.weightTarget else 0
    let x := s.blend.live.getD h.prev
    let r := limitChain c (s.pace.veff.getD c.velMax) s.blend.aStep h s.blend.trim
      (mixOf x (path.getD x) s.blend.trim w)
    let b := (mixedUpdate c path h s).state.blend
    b.history = some ⟨r.setpoint, h.prev⟩ ∧ b.limited = (s.blend.limited || r.limited) ∧
      b.live = (if hasRun st then s.blend.live else some r.setpoint) ∧ b.weight = w ∧
      b.trim = if st = .releasing then s.blend.trim else r.trim := by
  unfold mixedUpdate takeSetpoint
  dsimp only
  split <;> exact ⟨rfl, rfl, rfl, rfl, rfl⟩

/-- A node that is not at rest keeps its live position over the reports (R33). -/
theorem takeReports_live {m : MixResult} (moving : m.atRest = false) :
    (takeReports m s).blend.live = s.blend.live := by
  unfold takeReports
  split
  · rw [moving]; rfl
  · split
    · exact enterState_blend_live _ _
    · rfl
  · rfl

theorem runUpdate_live (moving : (mixed c s).atRest = false) :
    (runUpdate c s).blend.live = (mixed c s).state.blend.live := by
  rw [runUpdate_eq, takeReports_live moving]
  exact congrArg (·.2.2) (placing_exchangeStage c _ _)

/-- Where the exchange trips no check and no halt or release ends, what follows the mix stage touches the drive link
alone (R112). -/
theorem runUpdate_quiet (quiet : QuietClose c s.drive)
    (unhalted : (beforeMix c s).control.axisState ≠ .halted)
    (lasting : (beforeMix c s).control.axisState = .releasing → (mixed c s).weightAtZero = false) :
    ∃ drive, runUpdate c s = { (mixed c s).state with drive := drive } := by
  have still : QuietClose c (mixed c s).state.drive := by
    have same : (mixed c s).state.drive = (beforeMix c s).drive := by rw [mixed_state]
    rw [same]
    exact quietClose_of_steady (s := paceWork c s) (steady_beforeMix c s) quiet
  obtain ⟨x, r, opens⟩ := sendRecord_opens (mixed c s).pair (counted c (mixed c s).state)
  have exchanged : exchangeStage c (mixed c s).pair (mixed c s).state =
      sendRecord (mixed c s).pair (counted c (mixed c s).state) :=
    congrArg (sendRecord _) (closeExchange_quiet still.1 still.2)
  have control : (exchangeStage c (mixed c s).pair (mixed c s).state).control = (beforeMix c s).control := by
    rw [exchanged, opens]
    exact mixed_control c s
  rw [runUpdate_eq, takeReports_stands (fun halted => absurd (control ▸ halted) unhalted)
    (fun releasing => lasting (control ▸ releasing)), exchanged, opens]
  exact ⟨_, rfl⟩

end

/-- Settles O21: the mix of R119 by rounding once, and the update's mix stage with each limit of the chain written out. -/
theorem updateMixesAndLimits : Obligations.UpdateMixesAndLimits := by
  refine ⟨fun live path trim w within => ⟨mixOf_eq live path trim w, fun none => none ▸ mixOf_zero live path trim,
    fun full => full ▸ mixOf_full live path trim, mixOf_between live path trim within⟩, ?_⟩
  intro c h x n s running config timer history path moved st b steers live w m inside wanted distance cap capped last
    step setpoint
  set u : State := { s with blend := { s.blend with timer := some 0 } }
  have found : b.history = some h := (beforeMix_history c u).trans history
  have mixes : mixed c u = mixedUpdate c path.2 h
      { moved.1 with blend := { moved.1.blend with limited := moved.2 } } := mixStage_steering steers found
  obtain ⟨new, limited, position, weight, trim⟩ := mixedUpdate_blend c path.2 h
    { moved.1 with blend := { moved.1.blend with limited := moved.2 } }
  rw [← mixes] at new limited position weight trim
  have weighs : (if hasRun st then stepWeight b.weightStep b.weight b.weightTarget else 0) = w := by
    unfold w stepWeight
    cases hasRun st <;> rfl
  have caps : capStep c (veffOf c s.peers) b.aStep h.prev wanted = capped := capStep_eq c _ _ _ _
  have chain : limitChain c (moved.1.pace.veff.getD c.velMax) b.aStep h b.trim m =
      { setpoint := setpoint, trim := unwindTrim (m - inside).natAbs b.trim,
        limited := inside != m || capped != wanted || step != capped || setpoint != h.prev + step } := by
    rw [show moved.1.pace.veff = some (veffOf c s.peers) from beforeMix_veff c u, Option.getD_some]
    exact limitChain_of_capped b.trim caps
  dsimp only at new limited position weight trim
  rw [weighs, live, Option.getD_some, chain] at new limited position trim
  have moving : (mixed c u).atRest = false := by rw [mixes]; rfl
  refine ⟨_, exec_update running config timer, (runUpdate_history c u).trans new, ?_, ?_, fun quiet lasting => ?_⟩
  · rw [runUpdate_limited, limited]
    simp [or_assoc]
  · rw [runUpdate_live moving, position]
    split <;> rfl
  · have stands (releasing : st = .releasing) : (mixed c u).weightAtZero = false := by
      have reported : (mixed c u).weightAtZero = (st == .releasing &&
          (if hasRun st then stepWeight b.weightStep b.weight b.weightTarget else 0) == 0) := by
        rw [mixes]; rfl
      rw [reported, weighs, beq_false_of_ne (lasting releasing), Bool.and_false]
    have unhalted (halted : st = .halted) : False := by
      rw [halted] at steers
      exact absurd steers nofun
    obtain ⟨drive, same⟩ := runUpdate_quiet (s := u) quiet unhalted stands
    rw [same]
    exact ⟨mixed_control c u, weight.trans weighs, trim⟩

end Sys2Proof.Machine
end

section
/-! ## What a fault report comes to (R34, R140, R141) -/

namespace Sys2Proof.Machine

/-- A cause is reported in vain in SETUP and PARKED, by R141 in FAULT, and as an entry into FAULT elsewhere. -/
theorem reportFault_outcome (cause : FaultCause) {s : State} (open_ : s.drive.permanent = false) :
    if s.control.axisState = .setup ∨ s.control.axisState = .parked then reportFault cause s = s
    else if s.control.axisState = .fault then reportFault cause s = reportInFault cause s
    else FaultedFrom cause s (reportFault cause s) := by
  split
  case isTrue deaf => rcases deaf with st | st <;> rw [reportFault, st]
  case isFalse hears =>
    obtain ⟨notSetup, notParked⟩ := not_or.mp hears
    split
    case isTrue fault => rw [reportFault, fault]
    case isFalse well => exact reportFault_faults cause open_ notSetup notParked well

end Sys2Proof.Machine
end

section
/-! ## A frame with the node's own address (R142, R146, R152) -/

namespace Sys2Proof.Machine

/-- Every command that bears a sender is received as a frame of that sender, a COMMAND like any other (R172). -/
theorem exec_of_frameSender {i : Instr} {a : Addr} (bears : frameSender i = some a) (s : State) :
    ∃ record handle, exec i s = .next (receive a record handle s) := by
  cases i <;> cases bears <;> exact ⟨_, _, rfl⟩

theorem reportClash_unheard {s : State} (deaf : s.control.axisState = .setup ∨ s.control.axisState = .parked) :
    reportClash s = s := by
  rcases deaf with st | st <;> rw [reportClash, st]

/-- Outside SETUP and PARKED a clash starts its age again and is reported (R140, R142). -/
theorem reportClash_heard {s : State}
    (hears : ¬ (s.control.axisState = .setup ∨ s.control.axisState = .parked)) :
    reportClash s = reportFault .addressClash { s with drive.clashAge := some 0 } := by
  unfold reportClash
  split
  case h_1 st => exact absurd (.inl st) hears
  case h_2 st => exact absurd (.inr st) hears
  case h_3 => rfl

/-- Settles O42: every frame is received, and a received frame of the own address is a clash report and no more. -/
theorem ownAddressIsAClash : Obligations.OwnAddressIsAClash := by
  intro i s bears running addressed open_ clash st
  obtain ⟨record, handle, received⟩ := exec_of_frameSender bears s
  refine ⟨reportClash s, by rw [received, receive_own running addressed], ?_⟩
  split
  case isTrue deaf => exact reportClash_unheard deaf
  case isFalse hears =>
    rw [reportClash_heard hears]
    have report := reportFault_outcome .addressClash (s := clash) open_
    rwa [if_neg hears] at report

end Sys2Proof.Machine
end

section
/-! ## The drive's answer and the capture (R129, R133, R136) -/

namespace Sys2Proof.Machine

/-- The open exchange waits for the record of this number (R133). -/
abbrev Awaits (d : DriveLink) (seq : Byte) : Prop := ∃ e, d.exchange = some e ∧ e.seq = seq ∧ d.answer = none

/-- The node with a record as the answer of its exchange, its position the last feedback if it is ready (R133). -/
def answered (f : FeedbackRecord) (s : State) : State :=
  { s with drive.answer := some f,
           drive.lastFeedback := if f.ready = true then some f.position else s.drive.lastFeedback }

theorem takeFeedback_unawaited {f : FeedbackRecord} {s : State} (unawaited : ¬ Awaits s.drive f.seq) :
    takeFeedback f s = s := by
  unfold takeFeedback
  split
  case h_1 e exchange unanswered =>
    exact if_neg fun same => unawaited ⟨e, exchange, same, unanswered⟩
  case h_2 => rfl

theorem takeFeedback_awaited {f : FeedbackRecord} {s : State} {c : Configuration}
    (config : s.startup.config = some c) (awaited : Awaits s.drive f.seq) :
    takeFeedback f s =
      if f.ready = true ∧ s.control.axisState = .waking ∧ s.drive.captured = false
      then capture c f.position (answered f s) else answered f s := by
  obtain ⟨e, exchange, same, unanswered⟩ := awaited
  simp only [takeFeedback, answered, exchange, unanswered, config, if_pos same, Bool.and_eq_true, beq_iff_eq,
    Bool.not_eq_true', and_assoc]

theorem capture_inside {c : Configuration} {x : Int} (inside : Within c x) (s : State) :
    capture c x s =
      { s with drive := { s.drive with captured := true, enable := true },
               blend := { s.blend with history := some ⟨x, x⟩, live := some x, trim := 0, weight := 0 } } :=
  if_pos (withinLimits_iff.mpr inside)

theorem capture_outside {c : Configuration} {x : Int} (outside : ¬ Within c x) (s : State) :
    capture c x s = reportFault .outOfRange { s with drive.captured := true } :=
  if_neg fun inside => outside (withinLimits_iff.mp inside)

/-- Settles O29: an awaited record is the answer, and captures in WAKING; any other changes nothing. -/
theorem feedbackAnswersAndIsCaptured : Obligations.FeedbackAnswersAndIsCaptured := by
  intro seq ready position c s running config open_ x outcome last noted
  set f : FeedbackRecord := ⟨seq, ready, x⟩
  have taken : outcome = .next (takeFeedback f s) := congrArg _ (whenRunning_running running _)
  rw [taken]
  split
  case isFalse unawaited => rw [takeFeedback_unawaited (f := f) unawaited]
  case isTrue awaited =>
    rw [takeFeedback_awaited (f := f) config awaited]
    split
    case isFalse => rfl
    case isTrue first =>
      split
      case isTrue inside => rw [capture_inside inside]; rfl
      case isFalse outside =>
        rw [capture_outside outside]
        obtain ⟨-, waking, -⟩ := first
        have known (st : AxisState) (other : st ≠ .waking) : s.control.axisState ≠ st := waking ▸ other.symm
        exact ⟨_, rfl, reportFault_faults .outOfRange open_ (known .setup nofun) (known .parked nofun)
          (known .fault nofun)⟩

end Sys2Proof.Machine
end

section
/-! ## How a frame on the line ends (R131, R142, R168 to R170) -/

namespace Sys2Proof.Machine

/-- The outbox after the frame in hand has left it, sent or dropped: no frame in hand and no echo error (R169, R170). -/
def frameGone (h : InHand) (b : BusController) : BusController :=
  { removeFrame h b with inHand := none, echoErrors := 0 }

/-- Neither the attempt's records nor the line's level bear on what leaves the outbox. -/
theorem frameGone_attempt (h : InHand) (b : BusController) (l : LineOutput) (i : Option InHand) (n : Nat) :
    frameGone h { b with line := l, inHand := i, echoErrors := n } = { frameGone h b with line := l } := by
  unfold frameGone removeFrame
  cases h.replaced
  · cases h.kind <;> rfl
  · rfl

section
variable {h : InHand} {s : State} (hand : s.bus.inHand = some h) (sends : h.sending = true)
include hand sends

theorem loseContention_sending : loseContention s =
    { s with bus := { s.bus with line := .silent, inHand := some { h with sending := false } } } := by
  simp only [loseContention, hand, sends, if_true]

theorem takeEchoError_below (few : s.bus.echoErrors + 1 < 8) : takeEchoError s =
    { s with bus := { s.bus with line := .errorMark, inHand := some { h with sending := false },
                                 echoErrors := s.bus.echoErrors + 1 } } := by
  simp only [takeEchoError, hand, sends, if_true]
  exact if_neg (Nat.not_le.mpr few)

/-- The eighth echo error drops the frame with an error mark and reports LINK (R169). -/
theorem takeEchoError_eighth (eighth : 8 ≤ s.bus.echoErrors + 1) : takeEchoError s =
    reportFault .link { s with bus := { frameGone h s.bus with line := .errorMark } } := by
  simp only [takeEchoError, hand, sends, if_true]
  rw [if_pos (show echoLimit ≤ _ from eighth), ← frameGone_attempt]
  rfl

theorem dropEvent_sending : dropEvent s =
    reportFault .link { s with bus := { frameGone h s.bus with line := .errorMark } } := by
  simp only [dropEvent, hand, sends, if_true]
  rw [← frameGone_attempt h s.bus .errorMark s.bus.inHand s.bus.echoErrors]
  simp only [dropFrame, frameGone, hand]

theorem frameSent_sending : frameSent s =
    { s with bus := { frameGone h s.bus with line := .silent },
             drive := { s.drive with linkIntact := s.drive.linkIntact || s.drive.linkAwaited,
                                     linkAwaited := false } } := by
  simp only [frameSent, hand, sends, if_true, frameGone]

end

/-- Settles O51: each event on the frame on the line by its own lemma, and a drop by what a LINK report comes to. -/
theorem lineEventsEndAFrame : Obligations.LineEventsEndAFrame := by
  intro h s running hand sends open_ b quiet removed dropped reported
  have gone : removed = frameGone h b := by
    unfold removed frameGone removeFrame
    cases h.replaced
    · cases h.kind <;> rfl
    · rfl
  have drops : reported (reportFault .link { s with bus := { frameGone h b with line := .errorMark } }) := by
    rw [← gone]
    exact reportFault_outcome .link (s := dropped) open_
  have takes {f : State → State} {t : State} (run : f s = t) :
      (Host.Outcome.next (whenRunning f s) : Host.Outcome State Fault Refusal) = .next t := by
    rw [whenRunning_running running, run]
  refine ⟨?_, fun few => ?_, fun eighth => ⟨_, ?_, drops⟩, ⟨_, ?_, drops⟩, ?_⟩
  · exact takes (loseContention_sending hand sends)
  · exact takes (takeEchoError_below hand sends few)
  · exact takes (takeEchoError_eighth hand sends eighth)
  · exact takes (dropEvent_sending hand sends)
  · rw [gone]; exact takes (frameSent_sending hand sends)

end Sys2Proof.Machine
end

section
/-! ## The peer table over a step (R145 to R149)

Two operations of a running node put an entry into the table, in its place in the order of addresses: a recorded frame
and the loss of a peer. A millisecond ages the entries, a reset and a load empty the table, and every other operation
leaves the roster as it was. -/

namespace Sys2Proof.Machine

/-! ### One entry put into its place -/

section
variable {a : Addr} {f : PeerEntry → PeerEntry} {l : List PeerEntry}

/-- Recording an address brings no other address into the table (R146). -/
theorem mem_upsertPeer (same : ∀ e, (f e).address = e.address) {x : PeerEntry} (h : x ∈ upsertPeer a f l) :
    x.address = a ∨ x ∈ l := by
  induction l with
  | nil =>
    obtain rfl := List.mem_singleton.mp h
    exact .inl (same _)
  | cons e rest ih =>
    rw [upsertPeer] at h
    split at h
    case isTrue known =>
      rcases List.mem_cons.mp h with rfl | old
      · exact .inl ((same e).trans known)
      · exact .inr (List.mem_cons_of_mem e old)
    case isFalse =>
      split at h
      case isTrue =>
        rcases List.mem_cons.mp h with rfl | old
        · exact .inl (same _)
        · exact .inr old
      case isFalse =>
        rcases List.mem_cons.mp h with rfl | later
        · exact .inr List.mem_cons_self
        · exact (ih later).imp_right (List.mem_cons_of_mem e)

/-- The table stays in rising order of address, so it holds one entry for an address (R145). -/
theorem upsertPeer_rising (same : ∀ e, (f e).address = e.address)
    (rising : l.Pairwise fun x y => x.address.toNat < y.address.toNat) :
    (upsertPeer a f l).Pairwise fun x y => x.address.toNat < y.address.toNat := by
  induction l with
  | nil => exact List.pairwise_singleton _ _
  | cons e rest ih =>
    obtain ⟨first, later⟩ := List.pairwise_cons.mp rising
    rw [upsertPeer]
    split
    case isTrue => exact List.pairwise_cons.mpr ⟨by rwa [same], later⟩
    case isFalse other =>
      split
      case isTrue below =>
        have lowest : (f (newEntry a)).address.toNat < e.address.toNat := by rwa [same]
        refine List.pairwise_cons.mpr ⟨fun x hx => ?_, rising⟩
        rcases List.mem_cons.mp hx with rfl | old
        · exact lowest
        · exact lowest.trans (first x old)
      case isFalse above =>
        refine List.pairwise_cons.mpr ⟨fun x hx => ?_, ih later⟩
        rcases mem_upsertPeer same hx with rfl | old
        · exact lt_of_le_of_ne (not_lt.mp above) fun equal => other (BitVec.eq_of_toNat_eq equal)
        · exact first x old

end

/-! ### What the law speaks of -/

/-- The part of the state that the law speaks of. -/
structure Roster where
  phase : Phase
  address : Addr
  peers : List PeerEntry

/-- The roster of a state. -/
def roster (s : State) : Roster :=
  { phase := s.startup.phase, address := s.startup.address, peers := s.peers }

/-- What keeps the standing part keeps the roster. -/
theorem roster_of_standing {s t : State} (h : standing t = standing s) : roster t = roster s :=
  congrArg (fun p : Standing => (⟨p.startup.phase, p.startup.address, p.peers⟩ : Roster)) h

/-- What keeps the steady part keeps the roster. -/
theorem roster_of_steady {s t : State} (h : steady t = steady s) : roster t = roster s :=
  roster_of_standing (standing_of_steady h)

namespace PeersLawful

variable {s t : State}

theorem congr (h : PeersLawful s) (same : roster t = roster s) : PeersLawful t := by
  have phase : t.startup.phase = s.startup.phase := congrArg Roster.phase same
  have address : t.startup.address = s.startup.address := congrArg Roster.address same
  have peers : t.peers = s.peers := congrArg Roster.peers same
  exact ⟨peers ▸ h.rising, peers ▸ h.no_zero, by rw [peers, address]; exact h.not_own,
    by rw [phase, peers]; exact h.empty_before⟩

theorem of_empty (empty : s.peers = []) : PeersLawful s where
  rising := empty ▸ List.Pairwise.nil
  no_zero _ h := absurd (empty ▸ h) List.not_mem_nil
  not_own _ h := absurd (empty ▸ h) List.not_mem_nil
  empty_before _ := empty

/-- An entry of another station may be recorded once loading has ended (R146). -/
theorem upsert {a : Addr} {f : PeerEntry → PeerEntry} (same : ∀ e, (f e).address = e.address)
    (running : s.startup.phase = .running) (nonzero : a ≠ 0) (other : a ≠ s.startup.address) (h : PeersLawful s) :
    PeersLawful { s with peers := upsertPeer a f s.peers } where
  rising := upsertPeer_rising same h.rising
  no_zero e he := (mem_upsertPeer same he).elim (fun new => new ▸ nonzero) (h.no_zero e)
  not_own e he := (mem_upsertPeer same he).elim (fun new => new ▸ other) (h.not_own e)
  empty_before early := absurd running early

/-- A frame the node accepts bears another station's address, or 0, which has no entry (R146, R152). -/
theorem hear {a : Addr} {f : PeerEntry → PeerEntry} (accepted : Accepts a s) (same : ∀ e, (f e).address = e.address)
    (h : PeersLawful s) : PeersLawful (hear a f s) := by
  obtain ⟨running, foreign⟩ := accepted
  unfold Machine.hear
  split
  case isTrue => exact h
  case isFalse nonzero => exact h.upsert same running nonzero (foreign.resolve_left nonzero)

/-- A peer that is lost has an entry already, and keeps its address (R149). -/
theorem losePeer (a : Addr) (running : s.startup.phase = .running) (h : PeersLawful s) :
    PeersLawful (losePeer a s) := by
  unfold Machine.losePeer
  split
  case isFalse => exact h
  case isTrue present =>
    obtain ⟨e, found, -⟩ := (Option.any_eq_true _ _).mp present
    have address : e.address = a := by simpa using List.find?_some found
    have known : e ∈ s.peers := List.mem_of_find?_eq_some found
    have lost : PeersLawful { s with peers := upsertPeer a loseEntry s.peers } :=
      h.upsert (fun _ => rfl) running (address ▸ h.no_zero e known) (address ▸ h.not_own e known)
    dsimp only
    split
    · exact lost.congr (roster_of_steady (steady_takeCountedLoss _))
    · exact lost

/-- A millisecond changes ages alone (R148). -/
theorem aged (h : PeersLawful s) : PeersLawful (ageAll s) where
  rising := List.pairwise_map.mpr h.rising
  no_zero e he := by
    obtain ⟨x, hx, rfl⟩ := List.mem_map.mp he
    exact h.no_zero x hx
  not_own e he := by
    obtain ⟨x, hx, rfl⟩ := List.mem_map.mp he
    exact h.not_own x hx
  empty_before early := List.map_eq_nil_iff.mpr (h.empty_before early)

end PeersLawful

/-! ### Changes of axis state, loading and the configuration -/

@[simp] theorem roster_enterState (new : AxisState) (s : State) : roster (enterState new s) = roster s :=
  roster_of_steady (steady_enterState new s)

@[simp] theorem roster_haltNode (cause : Cause) (s : State) : roster (haltNode cause s) = roster s :=
  roster_of_steady (steady_haltNode cause s)

@[simp] theorem roster_enterLiveAt (x : Int) (s : State) : roster (enterLiveAt x s) = roster s :=
  roster_of_steady (steady_enterLiveAt x s)

@[simp] theorem roster_reportFault (cause : FaultCause) (s : State) : roster (reportFault cause s) = roster s :=
  roster_of_standing (standing_reportFault cause s)

@[simp] theorem roster_queueState (s : State) : roster (queueState s) = roster s :=
  roster_of_steady (steady_queueState s)

@[simp] theorem roster_enterWaking (s : State) : roster (enterWaking s) = roster s :=
  roster_enterState .waking _

/-- The first state is chosen over an empty table, and leaves it (R23). -/
theorem roster_firstState (s : State) : roster (firstState s) = roster s := by
  unfold firstState
  split
  · dsimp only
    split <;> rfl
  · split
    · simp
    · split
      · rw [roster_queueState]; rfl
      · rw [roster_enterWaking]; rfl

/-- A load starts with an empty peer table (R145, R177). -/
theorem peersLawful_loadingEnd {s : State} (h : PeersLawful s) : PeersLawful (loadingEnd s) := by
  have empty : PeersLawful (loadStore s) := .of_empty rfl
  unfold loadingEnd
  split
  · exact empty.congr (roster_firstState _)
  · exact h

theorem roster_configWriteEnd (s : State) : roster (configWriteEnd s) = roster s := by
  unfold configWriteEnd
  split
  · rfl
  · rw [roster_enterWaking]; rfl

/-! ### What cues leave of the steady part -/

@[simp] theorem steady_goRun (stack : List RunContext) (s : State) : steady (goRun stack s) = steady s := by
  unfold goRun; split <;> simp

@[simp] theorem steady_goPending (nest : Bool) (s : State) : steady (goPending nest s) = steady s := by
  unfold goPending
  split
  · split <;> simp
  · simp

theorem steady_takeHalt (code : Byte) (s : State) : steady (takeHalt code s) = steady s := by
  unfold takeHalt; split <;> simp

theorem steady_takeArm (cue : CueNo) (first : MarkNo) (s : State) : steady (takeArm cue first s) = steady s := by
  by_cases unnumbered : cue = 0
  · rw [takeArm_unheard first (.inl unnumbered)]
  rcases steers : working s.control.axisState with _ | _
  · rcases not_working_iff.mp steers with state | state | state | state | state
    · rw [takeArm_unheard first (.inr (.inl state))]
    · rw [takeArm_unheard first (.inr (.inr (.inl state)))]
    · rw [takeArm_unheard first (.inr (.inr (.inr state)))]
    · rw [takeArm_stopped first unnumbered (.inl state), steady_cueAnswer]
    · rw [takeArm_stopped first unnumbered (.inr state), steady_cueAnswer]
  · rw [takeArm_checked first unnumbered steers]
    split
    · simp
    · simp
    · dsimp only
      split
      · rw [steady_readStop, steady_queuePace, steady_changeState]; rfl
      · rfl

theorem steady_takeGo (cue : CueNo) (nest : Bool) (s : State) : steady (takeGo cue nest s) = steady s := by
  have answered : steady (if armedFor cue s.control then goRun [] s else cueAnswer .missed s) = steady s := by
    split <;> simp
  have pending : steady (if armedFor cue s.control then goPending nest s
      else if waitsForGo cue s.control then continueRun s else cueAnswer .missed s) = steady s := by
    split
    · simp
    · split <;> simp
  unfold takeGo
  split
  · rfl
  · split
    iterate 5 rfl
    · exact answered
    · split
      · simp
      · rw [steady_enterState]; rfl
    · exact answered
    all_goals exact pending

theorem steady_takeHold (cue : CueNo) (s : State) : steady (takeHold cue s) = steady s := by
  unfold takeHold
  split
  iterate 10 rfl
  split
  · rw [steady_enterState]; rfl
  · rfl

theorem steady_takeResume (cue : CueNo) (s : State) : steady (takeResume cue s) = steady s := by
  unfold takeResume
  split
  · split <;> simp
  · rfl

theorem steady_takeAbort (cue : CueNo) (s : State) : steady (takeAbort cue s) = steady s := by
  have dropped (b : Bool) : steady (if b then { s with control.arm := none } else s) = steady s := by
    split <;> rfl
  have run : steady (if cueMatches cue (s.control.run.map (·.cue)) then haltNode .abort s
      else if cueMatches cue (s.control.arm.map (·.cue)) then { s with control.arm := none } else s) =
      steady s := by
    split
    · simp
    · exact dropped _
  unfold takeAbort
  dsimp only
  split
  iterate 4 exact run
  · split
    · rw [steady_enterState]; rfl
    · rfl
  · exact dropped _
  · rfl

theorem steady_takeReturn (cue : CueNo) (duration : Nat) (s : State) :
    steady (takeReturn cue duration s) = steady s := by
  have back : steady (if cueMatches cue (ownCue s.control) then
      match s.control.stack with
      | [] => cueAnswer .noReturn s
      | top :: rest => popRun duration top rest s
    else s) = steady s := by
    split
    · split <;> simp
    · rfl
  unfold takeReturn
  split
  iterate 7 rfl
  · split <;> rfl
  all_goals exact back

theorem roster_takeDemandFrame (a : Addr) (p : DemandPayload) (s : State) :
    roster (takeDemandFrame a p s) = roster s := by
  unfold takeDemandFrame
  split
  · rfl
  · rw [dialPart_eq]
    change roster (demandPart a p s) = roster s
    unfold demandPart
    split
    · split <;> rfl
    · rfl

/-- Once its sender is recorded, no frame touches the roster (R173). -/
theorem Handling.roster {f : State → State} (e : Handling f) (s : State) : Machine.roster (f s) = Machine.roster s := by
  cases e with
  | recordOnly => rfl
  | halt code => exact roster_of_steady (steady_takeHalt code s)
  | arm cue first => exact roster_of_steady (steady_takeArm cue first s)
  | go cue nest => exact roster_of_steady (steady_takeGo cue nest s)
  | hold cue => exact roster_of_steady (steady_takeHold cue s)
  | resume cue => exact roster_of_steady (steady_takeResume cue s)
  | abort cue => exact roster_of_steady (steady_takeAbort cue s)
  | returnCue cue duration => exact roster_of_steady (steady_takeReturn cue duration s)
  | demand a p => exact roster_takeDemandFrame a p s
  | pace a p => rw [leaveCounted_eq]; rfl
  | poll target =>
    unfold takePoll
    split
    · simp
    · split <;> simp

/-! ### What events leave of the roster -/

theorem roster_takeFeedback (r : FeedbackRecord) (s : State) : roster (takeFeedback r s) = roster s := by
  have captures (c : Configuration) (u : State) : roster (capture c r.position u) = roster u := by
    unfold capture
    dsimp only
    split
    · rfl
    · exact roster_reportFault _ _
  unfold takeFeedback
  split
  · split
    · dsimp only
      split
      · split
        · exact captures _ _
        · rfl
      · rfl
    · rfl
  · rfl

theorem roster_stopChange (active : Bool) (s : State) : roster (stopChange active s) = roster s := by
  unfold stopChange
  dsimp only
  split
  · rfl
  · split
    · split
      · exact roster_haltNode _ _
      · rfl
    · split
      · exact roster_enterLiveAt _ _
      · rfl

theorem roster_settleExpiry (s : State) : roster (settleExpiry s) = roster s := by
  unfold settleExpiry
  split
  · split
    · simp
    · split
      · exact roster_enterState _ _
      · simp
  · rfl

theorem roster_armExpiry (s : State) : roster (armExpiry s) = roster s := by
  unfold armExpiry
  split
  · dsimp only
    split
    · exact roster_enterState _ _
    · rfl
  · rfl

theorem roster_grabExpiry (s : State) : roster (grabExpiry s) = roster s := by
  unfold grabExpiry
  split
  · exact roster_of_steady (steady_takeGrab _)
  · rfl

theorem roster_startFrame (s : State) : roster (startFrame s) = roster s := by
  unfold startFrame
  split
  · rfl
  · split <;> rfl

theorem roster_loseContention (s : State) : roster (loseContention s) = roster s := by
  unfold loseContention
  split
  · split <;> rfl
  · rfl

theorem roster_frameSent (s : State) : roster (frameSent s) = roster s := by
  unfold frameSent
  split
  · split <;> rfl
  · rfl

theorem roster_dropFrame (hand : InHand) (s : State) : roster (dropFrame hand s) = roster s :=
  roster_reportFault _ _

theorem roster_takeEchoError (s : State) : roster (takeEchoError s) = roster s := by
  unfold takeEchoError
  split
  · split
    · dsimp only
      split
      · exact roster_dropFrame _ _
      · rfl
    · rfl
  · rfl

theorem roster_dropEvent (s : State) : roster (dropEvent s) = roster s := by
  unfold dropEvent
  split
  · exact roster_dropFrame _ _
  · rfl

theorem roster_reportClash (s : State) : roster (reportClash s) = roster s := by
  unfold reportClash
  split
  · rfl
  · rfl
  · exact roster_reportFault _ _

/-- Of a node's events only the loss of a peer touches the roster (R149). -/
theorem Event.roster {f : State → State} (e : Event f) (s : State) :
    Machine.roster (f s) = Machine.roster s ∨ ∃ a, f = Machine.losePeer a := by
  cases e with
  | losePeer a => exact .inr ⟨a, rfl⟩
  | update => exact .inl (roster_of_standing (standing_update s))
  | paceInterval =>
    refine .inl ?_
    unfold Machine.paceInterval
    split
    · exact roster_of_steady (steady_queuePace s)
    · rfl
  | driveLost => exact .inl (roster_of_standing (standing_reportDrive _ _))
  | following => exact .inl (roster_of_standing (standing_reportDrive _ _))
  | feedback r => exact .inl (roster_takeFeedback r s)
  | stopChange active => exact .inl (roster_stopChange active s)
  | settle => exact .inl (roster_settleExpiry s)
  | armExpiry => exact .inl (roster_armExpiry s)
  | staleDemand =>
    refine .inl ?_
    unfold Machine.staleDemand
    split <;> rfl
  | staleDial => exact .inl rfl
  | releaseChannel ch => exact .inl (by cases ch <;> rfl)
  | grab => exact .inl (roster_grabExpiry s)
  | lease => exact .inl rfl
  | slotWrite =>
    obtain ⟨marks, slots, ended⟩ := slotWriteEnd_frame s
    exact .inl (by rw [ended]; rfl)
  | configWrite => exact .inl (roster_configWriteEnd s)
  | stateInterval =>
    refine .inl ?_
    unfold Machine.stateInterval
    split <;> simp
  | sendStart => exact .inl (roster_startFrame s)
  | lostContention => exact .inl (roster_loseContention s)
  | echoError => exact .inl (roster_takeEchoError s)
  | drop => exact .inl (roster_dropEvent s)
  | sentIntact => exact .inl (roster_frameSent s)
  | clash => exact .inl (roster_reportClash s)

/-! ### What COMMANDs leave of the roster -/

theorem roster_takePark (s : State) : roster (takePark s).state = roster s := by
  unfold takePark
  split
  · exact roster_enterState _ _
  · rfl

theorem roster_takeClear (s : State) : roster (takeClear s).state = roster s := by
  have cleared (x : Int) : roster (clearFault x s) = roster s := by
    have chosen (u : State) : roster (if u.stopInput then enterLiveAt x u
        else haltNode .stopInput { u with blend.live := some x }) = roster u := by
      split
      · simp
      · exact roster_haltNode _ _
    unfold clearFault
    dsimp only
    split <;> exact chosen _
  unfold takeClear
  split
  · split
    · exact cleared _
    · rfl
  · rfl

/-- A COMMAND's owner never touches the roster (R157 to R166, R179, R180). -/
theorem Owner.roster {k : CommandClass} {act : State → Answer} (o : Owner k act) (s : State) :
    Machine.roster (act s).state = Machine.roster s := by
  have edited {act : State → Answer} (o : Owner .edit act) : Machine.roster (act s).state = Machine.roster s := by
    obtain ⟨marks, slots, written⟩ := (o.markWork s).frame
    rw [written]; rfl
  have configured {act : State → Answer} (o : Owner .config act) :
      Machine.roster (act s).state = Machine.roster s := by
    obtain ⟨staged, write, written⟩ := o.config_frame s
    rw [written]; rfl
  cases o with
  | markOpen head args => exact edited (.markOpen head args)
  | markSet head args => exact edited (.markSet head args)
  | markClose head args => exact edited (.markClose head args)
  | markErase args => exact edited (.markErase args)
  | save => exact edited .save
  | markRead args => rw [takeMarkRead_state]
  | peerRead args => rw [takePeerRead_state]
  | park => exact roster_takePark s
  | wake => exact roster_enterWaking s
  | clear => exact roster_takeClear s
  | configSet args => exact configured (.configSet args)
  | configDone => exact configured .configDone
  | unknown => rfl

/-! ### Every step -/

/-- Before loading ends the table is empty, and the own address may change; from then on it stands, and an entry is
made for another station's frame alone (R145, R146, R177, R178). -/
theorem peersLawful_kept : KeptByNode PeersLawful where
  queue _ _ h := h.congr rfl
  reset _ _ := .of_empty rfl
  release address strap s h := by
    unfold releaseReset
    split
    case isTrue asserted => exact .of_empty (h.empty_before (by rw [asserted]; nofun))
    case isFalse => exact h
  loading _ _ _ phase h := .of_empty (h.empty_before (by rw [phase]; nofun))
  loaded _ := peersLawful_loadingEnd
  pin _ _ _ h := h.congr rfl
  aged _ _ h := h.aged
  event f e s running h := by
    rcases e.roster s with same | ⟨a, rfl⟩
    · exact h.congr same
    · exact h.losePeer a running
  heard _ _ _ accepted same h := h.hear accepted same
  handled _ e s _ h := h.congr (e.roster s)
  refused _ _ _ _ h := h.congr rfl
  answered _ _ o _ s _ _ _ h := h.congr (o.roster s)

/-- Settles O59: what every operation of the node keeps, its steps keep. -/
theorem stepKeepsPeersLawful : Obligations.StepKeepsPeersLawful :=
  fun _ _ h step => peersLawful_kept.step h step

end Sys2Proof.Machine
end

section
/-! ## PEER_READ (R147, R153) -/

namespace Sys2Proof.Machine

/-- SETUP takes the reads besides the states that take mark commands, and PARKED takes none (R156). -/
theorem gate_read {st : AxisState} (h : TakesMarkCommands st ∨ st = .setup) : gate .read st = none := by
  refine if_neg ?_
  rintro rfl
  exact absurd h (by decide)

/-- A read where reads are taken: the reply is its owner's (R154, R156). -/
theorem command_read {h : CommandHeader} {s : State} (taken : Taken h s)
    (takes : TakesMarkCommands s.control.axisState ∨ s.control.axisState = .setup) (act : State → Answer) :
    command h .read act s =
      sendReply h (act (heardFrom h.sender s)).result (act (heardFrom h.sender s)).data
        (act (heardFrom h.sender s)).state := by
  have awake : s.control.axisState ≠ .parked := by
    intro parked
    rw [parked] at takes
    exact absurd takes (by decide)
  rw [command_taken taken .read act (.inl awake), gate_read takes]

/-- A field of 16 bits goes out with its high byte first (R167, R176). -/
theorem halfBytes_eq (n : Nat) : halfBytes n = [BitVec.ofNat 8 (n / 256), BitVec.ofNat 8 n] := by
  have high : (BitVec.ofNat 16 n).extractLsb' 8 8 = BitVec.ofNat 8 (n / 256) := by
    apply BitVec.eq_of_toNat_eq
    simp only [BitVec.extractLsb'_toNat, BitVec.toNat_ofNat, Nat.shiftRight_eq_div_pow]
    omega
  have low : (BitVec.ofNat 16 n).extractLsb' 0 8 = BitVec.ofNat 8 n := by
    apply BitVec.eq_of_toNat_eq
    simp only [BitVec.extractLsb'_toNat, BitVec.toNat_ofNat, Nat.shiftRight_eq_div_pow]
    omega
  rw [halfBytes, high, low]

/-- The reply's data spell an entry's state, need, pace age and pace cue (R153, R176). -/
theorem peerData_eq (e : PeerEntry) : peerData e =
    [BitVec.ofNat 8 (peerStateCode e), BitVec.ofNat 8 (e.need.getD 0xFFFF / 256),
      BitVec.ofNat 8 (e.need.getD 0xFFFF), BitVec.ofNat 8 (min 255 (e.paceAge / 10)), e.paceCue.getD 0] := by
  rw [peerData, halfBytes_eq]
  rfl

section
variable {b : Byte} {more : List Byte} {s : State}

/-- No entry has the address 0, one above 31, or the node's own (R146, R153). -/
theorem takePeerRead_badArg (bad : b.toNat = 0 ∨ 31 < b.toNat ∨ b.toNat = s.startup.address.toNat) :
    takePeerRead (b :: more) s = refuse .badArg s :=
  if_pos (bad.imp_left fun zero => BitVec.eq_of_toNat_eq zero)

/-- Any other address is looked up in the table (R153). -/
theorem takePeerRead_address {a : Addr} (same : a.toNat = b.toNat) (nonzero : a ≠ 0)
    (other : a ≠ s.startup.address) : takePeerRead (b :: more) s =
      (peerAt s.peers a).elim (refuse .empty s) fun e => { result := .ok, data := peerData e, state := s } := by
  have within := a.isLt
  have named : b.setWidth 5 = a := BitVec.eq_of_toNat_eq (by rw [BitVec.toNat_setWidth]; omega)
  have good : ¬ (b = 0 ∨ 31 < b.toNat ∨ b.toNat = s.startup.address.toNat) := by
    rintro (rfl | above | own)
    · exact nonzero (BitVec.eq_of_toNat_eq same)
    · omega
    · exact other (BitVec.eq_of_toNat_eq (same.trans own))
  rw [takePeerRead, if_neg good, named]
  cases peerAt s.peers a <;> rfl

end

/-- Settles O49: the address argument is refused or looked up, and an entry's data are spelled out. -/
theorem peerReadReadsAnEntry : Obligations.PeerReadReadsAnEntry := by
  intro h b more s taken takes s' outcome gives
  have startup : s'.startup = s.startup := hear_startup _ _ s
  have replies {answer : Answer} (read : takePeerRead (b :: more) s' = answer) :
      outcome = .next (sendReply h answer.result answer.data answer.state) :=
    congrArg Host.Outcome.next (read ▸ command_read taken takes (takePeerRead (b :: more)))
  refine ⟨fun bad => replies (takePeerRead_badArg (startup ▸ bad)), fun a same nonzero other => ?_⟩
  have read := takePeerRead_address (more := more) same nonzero (startup ▸ other)
  split
  case h_1 absent =>
    rw [absent, Option.elim_none] at read
    exact replies read
  case h_2 e found =>
    rw [found, Option.elim_some, peerData_eq] at read
    exact replies read

end Sys2Proof.Machine
end

section
/-! ## The reply queue and the edit over a step (R155, R158, R164, R169)

The reply queue grows by the replies to COMMANDs, the echo-error count by an echo error, and the mark store alone opens
an edit or begins a save. Every other operation leaves all four as they were. -/

namespace Sys2Proof.Machine

/-! ### What events and COMMANDs leave standing -/

@[simp] theorem standing_haltNode (cause : Cause) (s : State) : standing (haltNode cause s) = standing s :=
  standing_of_steady (steady_haltNode cause s)

@[simp] theorem standing_queueState (s : State) : standing (queueState s) = standing s :=
  standing_of_steady (steady_queueState s)

@[simp] theorem standing_queuePace (s : State) : standing (queuePace s) = standing s :=
  standing_of_steady (steady_queuePace s)

theorem standing_paceInterval (s : State) : standing (paceInterval s) = standing s := by
  unfold paceInterval; split <;> simp

theorem standing_stateInterval (s : State) : standing (stateInterval s) = standing s := by
  unfold stateInterval; split <;> simp

theorem standing_takeFeedback (r : FeedbackRecord) (s : State) : standing (takeFeedback r s) = standing s := by
  have captures (c : Configuration) (u : State) : standing (capture c r.position u) = standing u := by
    unfold capture
    dsimp only
    split
    · rfl
    · exact standing_reportFault _ _
  unfold takeFeedback
  split
  · split
    · dsimp only
      split
      · split
        · exact captures _ _
        · rfl
      · rfl
    · rfl
  · rfl

theorem standing_settleExpiry (s : State) : standing (settleExpiry s) = standing s := by
  unfold settleExpiry
  split
  · split
    · simp
    · split
      · exact standing_enterState _ _
      · simp
  · rfl

theorem standing_armExpiry (s : State) : standing (armExpiry s) = standing s := by
  unfold armExpiry
  split
  · dsimp only
    split
    · exact standing_enterState _ _
    · rfl
  · rfl

theorem standing_grabExpiry (s : State) : standing (grabExpiry s) = standing s := by
  unfold grabExpiry
  split
  · exact standing_of_steady (steady_takeGrab _)
  · rfl

theorem standing_reportClash (s : State) : standing (reportClash s) = standing s := by
  unfold reportClash
  split
  · rfl
  · rfl
  · exact standing_reportFault _ _

theorem standing_takePoll (target : Option Addr) (s : State) : standing (takePoll target s) = standing s := by
  unfold takePoll
  split
  · simp
  · split <;> simp

theorem standing_takePark (s : State) : standing (takePark s).state = standing s := by
  unfold takePark
  split
  · exact standing_enterState _ _
  · rfl

theorem standing_takeClear (s : State) : standing (takeClear s).state = standing s := by
  have cleared (x : Int) : standing (clearFault x s) = standing s := by
    have chosen (u : State) : standing (if u.stopInput then enterLiveAt x u
        else haltNode .stopInput { u with blend.live := some x }) = standing u := by
      split
      · simp
      · exact standing_haltNode _ _
    unfold clearFault
    dsimp only
    split <;> exact chosen _
  unfold takeClear
  split
  · split
    · exact cleared _
    · rfl
  · rfl

/-! ### What the law speaks of -/

/-- The part of the state that the law speaks of. -/
structure Ledger where
  edit : Option OpenEdit
  save : Option SaveProgress
  replies : List Reply
  echoErrors : Nat

/-- The ledger of a state. -/
def ledger (s : State) : Ledger :=
  { edit := s.marks.edit, save := s.marks.save, replies := s.bus.replies, echoErrors := s.bus.echoErrors }

/-- What keeps the standing part keeps the ledger. -/
theorem ledger_of_standing {s t : State} (h : standing t = standing s) : ledger t = ledger s :=
  congrArg (fun p : Standing => (⟨p.marks.edit, p.marks.save, p.replies, p.echoErrors⟩ : Ledger)) h

/-- What keeps the steady part keeps the ledger. -/
theorem ledger_of_steady {s t : State} (h : steady t = steady s) : ledger t = ledger s :=
  ledger_of_standing (standing_of_steady h)

/-- The law of the reply queue, the echo-error count and the edit. -/
abbrev QueueAndEditBounded (s : State) : Prop := BusBounded s ∧ EditExcludesSave s

namespace QueueAndEditBounded

variable {s t : State}

theorem congr (h : QueueAndEditBounded s) (same : ledger t = ledger s) : QueueAndEditBounded t := by
  have edit : t.marks.edit = s.marks.edit := congrArg Ledger.edit same
  have save : t.marks.save = s.marks.save := congrArg Ledger.save same
  have replies : t.bus.replies = s.bus.replies := congrArg Ledger.replies same
  have errors : t.bus.echoErrors = s.bus.echoErrors := congrArg Ledger.echoErrors same
  rwa [QueueAndEditBounded, BusBounded, EditExcludesSave, edit, save, replies, errors]

/-- A node in reset, or whose store has just been loaded: nothing waits, and neither an edit nor a save is open. -/
theorem of_fresh (edit : s.marks.edit = none) (bus : s.bus = .reset) : QueueAndEditBounded s := by
  refine ⟨?_, .inl edit⟩
  rw [BusBounded, bus]
  exact ⟨Nat.zero_le _, Nat.zero_le _⟩

/-- The outbox may hold anything else, as long as its bounds are met. -/
theorem of_bus (h : QueueAndEditBounded s) (marks : t.marks = s.marks)
    (fewer : t.bus.replies.length ≤ s.bus.replies.length) (errors : t.bus.echoErrors ≤ echoLimit) :
    QueueAndEditBounded t := by
  obtain ⟨⟨room, -⟩, excludes⟩ := h
  exact ⟨⟨fewer.trans room, errors⟩, by rwa [EditExcludesSave, marks]⟩

/-- A reply joins a queue with room for it (R155). -/
theorem sendReply (h : QueueAndEditBounded s) (room : s.bus.replies.length < replyRoom) (head : CommandHeader)
    (r : Result) (data : List Byte) : QueueAndEditBounded (sendReply head r data s) := by
  obtain ⟨⟨-, errors⟩, excludes⟩ := h
  refine ⟨⟨?_, errors⟩, excludes⟩
  exact (List.length_append).trans_le room

/-! ### The mark store (R158 to R164) -/

/-- An edit opens where no save runs, and a save begins where no edit is open (R159, R164). -/
theorem markWork (h : QueueAndEditBounded s) (w : MarkWork s t) : QueueAndEditBounded t := by
  obtain ⟨bounded, excludes⟩ := h
  cases w with
  | nothing => exact ⟨bounded, excludes⟩
  | staged e idle => exact ⟨bounded, .inr (idle.elim excludes.resolve_left id)⟩
  | discarded => exact ⟨bounded, .inl rfl⟩
  | slotted n slot edit _ source =>
    refine ⟨bounded, ?_⟩
    rcases source with ⟨-, rfl⟩ | ⟨-, -, -, rfl⟩
    · exact excludes
    · exact .inl rfl
  | saving idle =>
    obtain ⟨-, closed⟩ := idle
    exact ⟨bounded, .inl closed⟩

/-- While a save runs no edit is open, and no slot's end opens one (R164). -/
theorem slotWriteEnd (h : QueueAndEditBounded s) : QueueAndEditBounded (slotWriteEnd s) := by
  rcases saving : s.marks.save with _ | p
  · rwa [slotWriteEnd_idle saving]
  obtain ⟨bounded, excludes⟩ := h
  have closed : s.marks.edit = none := excludes.resolve_right (by rw [saving]; nofun)
  rw [slotWriteEnd_saving saving]
  split <;> exact ⟨bounded, .inl closed⟩

/-- A millisecond counts the lease and the write on. -/
theorem aged (h : QueueAndEditBounded s) : QueueAndEditBounded (ageAll s) :=
  h.imp_right (Or.imp Option.map_eq_none_iff.mpr Option.map_eq_none_iff.mpr)

end QueueAndEditBounded

/-! ### Changes of axis state, loading and the configuration -/

@[simp] theorem ledger_enterState (new : AxisState) (s : State) : ledger (enterState new s) = ledger s :=
  ledger_of_steady (steady_enterState new s)

@[simp] theorem ledger_haltNode (cause : Cause) (s : State) : ledger (haltNode cause s) = ledger s :=
  ledger_of_steady (steady_haltNode cause s)

@[simp] theorem ledger_enterLiveAt (x : Int) (s : State) : ledger (enterLiveAt x s) = ledger s :=
  ledger_of_steady (steady_enterLiveAt x s)

@[simp] theorem ledger_reportFault (cause : FaultCause) (s : State) : ledger (reportFault cause s) = ledger s :=
  ledger_of_standing (standing_reportFault cause s)

@[simp] theorem ledger_queueState (s : State) : ledger (queueState s) = ledger s :=
  ledger_of_steady (steady_queueState s)

@[simp] theorem ledger_enterWaking (s : State) : ledger (enterWaking s) = ledger s :=
  ledger_enterState .waking _

theorem ledger_firstState (s : State) : ledger (firstState s) = ledger s := by
  unfold firstState
  split
  · dsimp only
    split <;> rfl
  · split
    · simp
    · split
      · rw [ledger_queueState]; rfl
      · rw [ledger_enterWaking]; rfl

theorem QueueAndEditBounded.loadingEnd {s : State} (h : QueueAndEditBounded s) :
    QueueAndEditBounded (loadingEnd s) := by
  have fresh : QueueAndEditBounded (loadStore s) := .of_fresh rfl rfl
  unfold Machine.loadingEnd
  split
  · exact fresh.congr (ledger_firstState _)
  · exact h

theorem ledger_configWriteEnd (s : State) : ledger (configWriteEnd s) = ledger s := by
  unfold configWriteEnd
  split
  · rfl
  · rw [ledger_enterWaking]; rfl

/-! ### What events leave of the ledger -/

theorem ledger_stopChange (active : Bool) (s : State) : ledger (stopChange active s) = ledger s := by
  unfold stopChange
  dsimp only
  split
  · rfl
  · split
    · split
      · exact ledger_haltNode _ _
      · rfl
    · split
      · exact ledger_enterLiveAt _ _
      · rfl

theorem ledger_losePeer (a : Addr) (s : State) : ledger (losePeer a s) = ledger s := by
  unfold losePeer
  split
  · dsimp only
    split
    · exact (ledger_of_steady (steady_takeCountedLoss _) :)
    · rfl
  · rfl

theorem ledger_takeDemandFrame (a : Addr) (p : DemandPayload) (s : State) :
    ledger (takeDemandFrame a p s) = ledger s := by
  unfold takeDemandFrame
  split
  · rfl
  · rw [dialPart_eq]
    change ledger (demandPart a p s) = ledger s
    unfold demandPart
    split
    · split <;> rfl
    · rfl

/-! ### The line (R168 to R171) -/

/-- The frame in hand leaves the outbox; no reply joins it (R170). -/
theorem removeFrame_replies_le (h : InHand) (b : BusController) :
    (removeFrame h b).replies.length ≤ b.replies.length := by
  unfold removeFrame
  split
  · exact le_rfl
  · split
    iterate 3 exact le_rfl
    exact (List.length_tail).trans_le (Nat.sub_le _ _)

namespace QueueAndEditBounded

variable {s t : State}

theorem startFrame (h : QueueAndEditBounded s) : QueueAndEditBounded (startFrame s) := by
  unfold Machine.startFrame
  split
  · exact h
  · split
    · exact h
    · obtain ⟨⟨-, errors⟩, -⟩ := id h
      refine h.of_bus rfl le_rfl ?_
      dsimp only
      split
      · exact errors
      · exact Nat.zero_le _

theorem loseContention (h : QueueAndEditBounded s) : QueueAndEditBounded (loseContention s) := by
  unfold Machine.loseContention
  split
  · split
    · exact h.congr rfl
    · exact h
  · exact h

theorem frameSent (h : QueueAndEditBounded s) : QueueAndEditBounded (frameSent s) := by
  unfold Machine.frameSent
  split
  · split
    · exact h.of_bus rfl (removeFrame_replies_le _ _) (Nat.zero_le _)
    · exact h
  · exact h

/-- A drop sets the echo-error count to 0, whatever it was (R169). -/
theorem dropFrame (hand : InHand) (h : QueueAndEditBounded s) (marks : t.marks = s.marks)
    (same : t.bus.replies = s.bus.replies) : QueueAndEditBounded (dropFrame hand t) := by
  have fewer := (removeFrame_replies_le hand t.bus).trans_eq (congrArg List.length same)
  exact (h.of_bus (t := { t with bus := { removeFrame hand t.bus with inHand := none, echoErrors := 0 } })
    marks fewer (Nat.zero_le _)).congr (ledger_reportFault _ _)

/-- The count goes one up below its limit, and is dropped with the frame at it (R169). -/
theorem takeEchoError (h : QueueAndEditBounded s) : QueueAndEditBounded (takeEchoError s) := by
  unfold Machine.takeEchoError
  split
  · split
    · dsimp only
      split
      case isTrue => exact h.dropFrame _ rfl rfl
      case isFalse below => exact h.of_bus rfl le_rfl (not_le.mp below).le
    · exact h
  · exact h

theorem dropEvent (h : QueueAndEditBounded s) : QueueAndEditBounded (dropEvent s) := by
  unfold Machine.dropEvent
  split
  · exact h.dropFrame _ rfl rfl
  · exact h

/-! ### Every step -/

theorem event (h : QueueAndEditBounded s) {f : State → State} (e : Event f) : QueueAndEditBounded (f s) := by
  cases e with
  | update => exact h.congr (ledger_of_standing (standing_update s))
  | paceInterval => exact h.congr (ledger_of_standing (standing_paceInterval s))
  | driveLost => exact h.congr (ledger_of_standing (standing_reportDrive _ _))
  | following => exact h.congr (ledger_of_standing (standing_reportDrive _ _))
  | feedback r => exact h.congr (ledger_of_standing (standing_takeFeedback r s))
  | stopChange active => exact h.congr (ledger_stopChange active s)
  | settle => exact h.congr (ledger_of_standing (standing_settleExpiry s))
  | armExpiry => exact h.congr (ledger_of_standing (standing_armExpiry s))
  | staleDemand =>
    unfold Machine.staleDemand
    split <;> exact h
  | staleDial => exact h
  | releaseChannel ch => cases ch <;> exact h
  | grab => exact h.congr (ledger_of_standing (standing_grabExpiry s))
  | losePeer a => exact h.congr (ledger_losePeer a s)
  | lease => exact h.imp_right fun _ => .inl rfl
  | slotWrite => exact h.slotWriteEnd
  | configWrite => exact h.congr (ledger_configWriteEnd s)
  | stateInterval => exact h.congr (ledger_of_standing (standing_stateInterval s))
  | sendStart => exact h.startFrame
  | lostContention => exact h.loseContention
  | echoError => exact h.takeEchoError
  | drop => exact h.dropEvent
  | sentIntact => exact h.frameSent
  | clash => exact h.congr (ledger_of_standing (standing_reportClash s))

end QueueAndEditBounded

/-- No received frame but a COMMAND touches the ledger (R173). -/
theorem Handling.ledger {f : State → State} (e : Handling f) (s : State) :
    Machine.ledger (f s) = Machine.ledger s := by
  cases e with
  | recordOnly => rfl
  | halt code => exact ledger_of_steady (steady_takeHalt code s)
  | arm cue first => exact ledger_of_steady (steady_takeArm cue first s)
  | go cue nest => exact ledger_of_steady (steady_takeGo cue nest s)
  | hold cue => exact ledger_of_steady (steady_takeHold cue s)
  | resume cue => exact ledger_of_steady (steady_takeResume cue s)
  | abort cue => exact ledger_of_steady (steady_takeAbort cue s)
  | returnCue cue duration => exact ledger_of_steady (steady_takeReturn cue duration s)
  | demand a p => exact ledger_takeDemandFrame a p s
  | pace a p => rw [leaveCounted_eq]; rfl
  | poll target => exact ledger_of_standing (standing_takePoll target s)

/-- A COMMAND's owner leaves the reply queue and the line alone, and of the marks writes what the mark store's commands
may (R154, R159 to R164). -/
theorem Owner.keeps_queueAndEdit {k : CommandClass} {act : State → Answer} (o : Owner k act) {s : State}
    (h : QueueAndEditBounded s) : QueueAndEditBounded (act s).state ∧ (act s).state.bus.replies = s.bus.replies := by
  have edited {act : State → Answer} (o : Owner .edit act) :
      QueueAndEditBounded (act s).state ∧ (act s).state.bus.replies = s.bus.replies := by
    refine ⟨h.markWork (o.markWork s), ?_⟩
    obtain ⟨marks, slots, written⟩ := (o.markWork s).frame
    rw [written]
  have stood {t : State} (same : standing t = standing s) :
      QueueAndEditBounded t ∧ t.bus.replies = s.bus.replies :=
    ⟨h.congr (ledger_of_standing same), congrArg Standing.replies same⟩
  have configured {act : State → Answer} (o : Owner .config act) :
      QueueAndEditBounded (act s).state ∧ (act s).state.bus.replies = s.bus.replies := by
    obtain ⟨staged, write, written⟩ := o.config_frame s
    rw [written]
    exact ⟨h, rfl⟩
  cases o with
  | markOpen head args => exact edited (.markOpen head args)
  | markSet head args => exact edited (.markSet head args)
  | markClose head args => exact edited (.markClose head args)
  | markErase args => exact edited (.markErase args)
  | save => exact edited .save
  | markRead args => rw [takeMarkRead_state]; exact ⟨h, rfl⟩
  | peerRead args => rw [takePeerRead_state]; exact ⟨h, rfl⟩
  | park => exact stood (standing_takePark s)
  | wake => exact stood (standing_enterState .waking _)
  | clear => exact stood (standing_takeClear s)
  | configSet args => exact configured (.configSet args)
  | configDone => exact configured .configDone
  | unknown => exact ⟨h, rfl⟩

/-- A reply is queued where there is room for it, the echo errors are counted below their limit, and an edit and a save
wait for each other (R155, R158, R164, R169). -/
theorem queueAndEditBounded_kept : KeptByNode QueueAndEditBounded where
  queue _ _ h := h
  reset _ _ := .of_fresh rfl rfl
  release address strap s h := by
    unfold releaseReset
    split <;> exact h
  loading _ _ _ _ h := h
  loaded _ h := h.loadingEnd
  pin _ _ _ h := h
  aged _ _ h := h.aged
  event _ e _ _ h := h.event e
  heard a record s _ _ h := by
    unfold hear
    split <;> exact h
  handled _ e s _ h := h.congr (e.ledger s)
  refused head r _ room h := h.sendReply room head r []
  answered _ _ o head s _ _ room h := by
    obtain ⟨kept, same⟩ := o.keeps_queueAndEdit h
    exact kept.sendReply (same ▸ room) head _ _

/-- Settles O58: what every operation of the node keeps, its steps keep. -/
theorem stepKeepsQueueAndEditBounds : Obligations.StepKeepsQueueAndEditBounds :=
  fun _ _ h step => queueAndEditBounded_kept.step h step

end Sys2Proof.Machine
end

section
/-! ## Mark editing (R1, R7, R157 to R163) -/

namespace Sys2Proof.Machine

theorem markOf_val {n : MarkNo} {b : Byte} (named : n.val = b.toNat) : markOf b = some n := by
  have low : b.toNat < 64 := named ▸ n.isLt
  rw [markOf, dif_pos low]
  exact congrArg some (Fin.ext named.symm)

theorem markOf_above {b : Byte} (above : 64 ≤ b.toNat) : markOf b = none := dif_neg (not_lt.mpr above)

section
variable {h : CommandHeader} {s : State} {act : State → Answer} {answer : Answer}

/-- A mark command where mark commands are taken, by what its owner answers once the sender is recorded (R154). -/
theorem edit_replies (taken : Taken h s) (takes : TakesMarkCommands s.control.axisState)
    (does : act (heardFrom h.sender s) = answer) :
    (.next (command h .edit act s) : Host.Outcome State Fault Refusal) =
      .next (sendReply h answer.result answer.data answer.state) := by
  rw [command_edit taken takes, does]

/-- A read where reads are taken, by what its owner answers once the sender is recorded (R154). -/
theorem read_replies (taken : Taken h s)
    (takes : TakesMarkCommands s.control.axisState ∨ s.control.axisState = .setup)
    (does : act (heardFrom h.sender s) = answer) :
    (.next (command h .read act s) : Host.Outcome State Fault Refusal) =
      .next (sendReply h answer.result answer.data answer.state) := by
  rw [command_read taken takes, does]

end

/-! ### MARK_OPEN -/

section
variable {h : CommandHeader} {b : Byte} {more : List Byte} {n : MarkNo} {s : State}

/-- The answer to a MARK_OPEN that opens an edit: the status byte shows whether the slot is VALID (R159). -/
def openedEdit (h : CommandHeader) (b : Byte) (n : MarkNo) (status : Byte) (m : Mark) (s : State) : Answer :=
  { result := .ok, data := [b, status],
    state := { s with marks := { s.marks with
      edit := some { mark := n, staged := m, holder := h.sender, lease := 0 } } } }

theorem takeMarkOpen_above (above : 64 ≤ b.toNat) : takeMarkOpen h (b :: more) s = refuse .badArg s := by
  simp only [takeMarkOpen, markOf_above above]

/-- The cases of R159 in their order. -/
theorem takeMarkOpen_named (named : n.val = b.toNat) : takeMarkOpen h (b :: more) s =
    if s.marks.edit ≠ none then refuse .locked s
    else if s.marks.save ≠ none then refuse .busy s
    else if HeldInAChain s.control n then refuse .busy s
    else match s.marks.table[n].record, s.blend.history with
      | some m, _ => openedEdit h b n 1 m s
      | none, some x => openedEdit h b n 0 (startMark x.prev) s
      | none, none => refuse .badState s := by
  simp only [takeMarkOpen, markOf_val named, ← inChainSet_iff, Option.isSome_iff_ne_none]
  rfl

end

/-- Settles O44: the argument names a mark or none, and the edit opens or is refused by the first case that fits. -/
theorem markOpenStagesACopy : Obligations.MarkOpenStagesACopy := by
  intro h b more s taken takes s' outcome no opened
  have replies {answer : Answer} (does : takeMarkOpen h (b :: more) s' = answer) :
      outcome = .next (sendReply h answer.result answer.data answer.state) := edit_replies taken takes does
  obtain ⟨peers, heard⟩ : ∃ peers, s' = { s with peers := peers } := ⟨_, heardFrom_eq _ s⟩
  clear_value s'
  subst heard
  refine ⟨fun above => replies (takeMarkOpen_above above), fun n named => ?_⟩
  have run := replies (takeMarkOpen_named named)
  dsimp only at run
  split_ifs at run ⊢ with editing saving held
  iterate 3 exact run
  rcases valid : s.marks.table[n].record with _ | m
  · rcases placed : s.blend.history with _ | x <;> simp only [valid, placed] at run <;> exact run
  · simp only [valid] at run
    exact run

/-! ### The field codes and their values (R160, R176) -/

section
variable {v : Int}

theorem easeOfCode_eq (v : Int) : easeOfCode v =
    if v = 0 then some .cubic else if v = 1 then some .quintic else if v = 2 then some .cruise else none := by
  unfold easeOfCode
  split <;> simp_all

theorem authorityOfCode_eq (v : Int) : authorityOfCode v =
    if v = 0 then some .follow else if v = 1 then some .share else none := by
  unfold authorityOfCode
  split <;> simp_all

theorem endActionOfCode_eq (v : Int) : endActionOfCode v =
    if v = 0 then some .release else if v = 1 then some .latch else none := by
  unfold endActionOfCode
  split <;> simp_all

theorem linkOfCode_eq (v : Int) : linkOfCode v =
    if h : 0 ≤ v ∧ v < 64 then some (some ⟨v.toNat, by omega⟩) else if v = 255 then some none else none := by
  unfold linkOfCode
  rcases eq_or_ne v 255 with rfl | other
  · rfl
  · rw [if_neg other]
    exact dite_congr (propext (by omega)) (fun _ => rfl) fun _ => (if_neg other).symm

theorem easeCode_of {e : Ease} (h : easeOfCode v = some e) : (easeCode e : Int) = v := by
  unfold easeOfCode at h
  split at h <;> cases h <;> rfl

theorem authorityCode_of {a : Authority} (h : authorityOfCode v = some a) : (authorityCode a : Int) = v := by
  unfold authorityOfCode at h
  split at h <;> cases h <;> rfl

theorem endActionCode_of {e : EndAction} (h : endActionOfCode v = some e) : (endActionCode e : Int) = v := by
  unfold endActionOfCode at h
  split at h <;> cases h <;> rfl

theorem linkCode_of {n : Option MarkNo} (h : linkOfCode v = some n) : (linkCode n : Int) = v := by
  unfold linkOfCode at h
  split_ifs at h with absent present
  · cases h; exact absent.symm
  · cases h; exact Int.toNat_of_nonneg present.2

end

/-! ### MARK_SET -/

/-- A mark with a field stored, and the value that the field then has; none is BAD_ARG (R160). -/
def storedField (c : Configuration) (m : Mark) (f : MarkField) (v : Int) : Option (Mark × Int) :=
  (setMarkField c.limitLow c.limitHigh m f v).map fun m' => (m', markFieldValue m' f)

section
variable {c : Configuration} {m : Mark} {v : Int}

/-- A field that takes codes alone stores the code as it came. -/
theorem storedField_coded {α : Type} {f : MarkField} {codes : Option α} {put : α → Mark}
    (sets : setMarkField c.limitLow c.limitHigh m f v = codes.map put)
    (reads : ∀ x, codes = some x → markFieldValue (put x) f = v) :
    storedField c m f v = codes.map fun x => (put x, v) := by
  rw [storedField, sets, Option.map_map]
  exact Option.map_congr fun x code => congrArg (Prod.mk (put x)) (reads x code)

/-- A field with a range of its own stores the nearest value of it. -/
theorem storedField_clamped {f : MarkField} {low high : Int} {put : Nat → Mark} (unsigned : 0 ≤ low)
    (sets : setMarkField c.limitLow c.limitHigh m f v = some (put (clampInt low high v).toNat))
    (reads : ∀ n : Nat, markFieldValue (put n) f = n) :
    storedField c m f v = some (put (clampInt low high v).toNat, clampInt low high v) := by
  have nonneg : 0 ≤ clampInt low high v := le_max_of_le_left unsigned
  rw [storedField, sets, Option.map_some, reads, Int.toNat_of_nonneg nonneg]

theorem storedField_stop :
    storedField c m .stop v = if v = 0 ∨ v = 1 then some ({ m with stop := v == 1 }, v) else none := by
  unfold storedField setMarkField
  rcases eq_or_ne v 0 with rfl | set
  · rfl
  · rcases eq_or_ne v 1 with rfl | other
    · rfl
    · simp [set, other]

/-- What a field code stores of a value, code by code (R160, R176). -/
theorem storedField_of_code (c : Configuration) (m : Mark) (f : Byte) (v : Int) :
    ((markFieldOf f).bind fun field => storedField c m field v) =
      match f.toNat with
      | 0 => some ({ m with position := clampInt c.limitLow c.limitHigh v }, clampInt c.limitLow c.limitHigh v)
      | 1 => some ({ m with duration := (clampInt 100 600000 v).toNat }, clampInt 100 600000 v)
      | 2 => (easeOfCode v).map fun x => ({ m with ease := x }, v)
      | 3 => (authorityOfCode v).map fun x => ({ m with authority := x }, v)
      | 4 => some ({ m with share := (clampInt 0 4096 v).toNat }, clampInt 0 4096 v)
      | 5 => some ({ m with dwell := (clampInt 0 60000 v).toNat }, clampInt 0 60000 v)
      | 6 => (linkOfCode v).map fun x => ({ m with next := x }, v)
      | 7 => (linkOfCode v).map fun x => ({ m with loopTo := x }, v)
      | 8 => some ({ m with repeats := (clampInt 1 255 v).toNat }, clampInt 1 255 v)
      | 9 => if v = 0 ∨ v = 1 then some ({ m with stop := v == 1 }, v) else none
      | 10 => (endActionOfCode v).map fun x => ({ m with endAction := x }, v)
      | _ => none := by
  unfold markFieldOf
  generalize f.toNat = code
  match code with
  | 0 => rfl
  | 1 =>
    exact storedField_clamped (f := .duration) (put := fun n => { m with duration := n }) (by decide) rfl fun _ => rfl
  | 2 => exact storedField_coded (f := .ease) rfl fun _ => easeCode_of
  | 3 => exact storedField_coded (f := .authority) rfl fun _ => authorityCode_of
  | 4 => exact storedField_clamped (f := .share) (put := fun n => { m with share := n }) le_rfl rfl fun _ => rfl
  | 5 => exact storedField_clamped (f := .dwell) (put := fun n => { m with dwell := n }) le_rfl rfl fun _ => rfl
  | 6 => exact storedField_coded (f := .next) rfl fun _ => linkCode_of
  | 7 => exact storedField_coded (f := .loopTo) rfl fun _ => linkCode_of
  | 8 =>
    exact storedField_clamped (f := .repeats) (put := fun n => { m with repeats := n }) (by decide) rfl fun _ => rfl
  | 9 => exact storedField_stop
  | 10 => exact storedField_coded (f := .endAction) rfl fun _ => endActionCode_of
  | _ + 11 => rfl

end

section
variable {h : CommandHeader} {f b3 b2 b1 b0 : Byte} {more : List Byte} {c : Configuration} {e : OpenEdit} {s : State}

/-- The answer to a MARK_SET that stores a field: the value now in the staged copy, and the lease from 0 (R160). -/
def stagedField (e : OpenEdit) (f : Byte) (v : Int) (s : State) (stored : Mark × Int) : Answer :=
  { result := if stored.2 = v then .ok else .clamped, data := f :: valueBytes stored.2,
    state := { s with marks := { s.marks with edit := some { e with staged := stored.1, lease := 0 } } } }

theorem takeMarkSet_closed (closed : s.marks.edit = none) :
    takeMarkSet h (f :: b3 :: b2 :: b1 :: b0 :: more) s = refuse .notOpen s := by
  simp only [takeMarkSet, closed]

theorem takeMarkSet_foreign (edit : s.marks.edit = some e) (foreign : e.holder ≠ h.sender) :
    takeMarkSet h (f :: b3 :: b2 :: b1 :: b0 :: more) s = refuse .locked s := by
  simp only [takeMarkSet, edit]
  exact if_pos foreign

theorem takeMarkSet_own (edit : s.marks.edit = some e) (own : e.holder = h.sender)
    (config : s.startup.config = some c) :
    takeMarkSet h (f :: b3 :: b2 :: b1 :: b0 :: more) s =
      ((markFieldOf f).bind fun field => storedField c e.staged field (valueOf b3 b2 b1 b0)).elim (refuse .badArg s)
        (stagedField e f (valueOf b3 b2 b1 b0) s) := by
  simp only [takeMarkSet, edit, config, if_neg (not_not_intro own)]
  rcases markFieldOf f with _ | field
  · rfl
  · rw [Option.bind_some, storedField]
    dsimp only
    cases setMarkField c.limitLow c.limitHigh e.staged field (valueOf b3 b2 b1 b0) <;> rfl

end

/-- Settles O45: of the holder's edit the field's code says what is stored, and the value read back is the reply's. -/
theorem markSetStagesAField : Obligations.MarkSetStagesAField := by
  intro h f b3 b2 b1 b0 more c s taken takes config v s' outcome no into link
  have replies {answer : Answer} (does : takeMarkSet h (f :: b3 :: b2 :: b1 :: b0 :: more) s' = answer) :
      outcome = .next (sendReply h answer.result answer.data answer.state) := edit_replies taken takes does
  obtain ⟨peers, heard⟩ : ∃ peers, s' = { s with peers := peers } := ⟨_, heardFrom_eq _ s⟩
  clear_value s'
  subst heard
  split
  case h_1 closed => exact replies (takeMarkSet_closed closed)
  case h_2 e edit =>
    split
    case isTrue foreign => exact replies (takeMarkSet_foreign edit foreign)
    case isFalse own =>
      intro m stored
      have run := replies (takeMarkSet_own (f := f) (b3 := b3) (b2 := b2) (b1 := b1) (b0 := b0) (more := more) edit
        (not_not.mp own) config)
      have same : ((markFieldOf f).bind fun field => storedField c m field v) = stored := by
        rw [storedField_of_code, easeOfCode_eq, authorityOfCode_eq, endActionOfCode_eq, linkOfCode_eq]
        rfl
      rw [same] at run
      clear_value stored
      split <;> exact run

/-! ### MARK_CLOSE and MARK_ERASE -/

/-- A slot written into the table, and no other touched. -/
theorem set_writes (table : Vector MarkSlot 64) (n : MarkNo) (slot : MarkSlot) :
    (table.set n slot)[n] = slot ∧ ∀ k : MarkNo, k ≠ n → (table.set n slot)[k] = table[k] :=
  ⟨(set_get table n n slot).trans (if_pos rfl), fun k other => (set_get table n k slot).trans (if_neg other.symm)⟩

section
variable {h : CommandHeader} {b : Byte} {more : List Byte} {n : MarkNo} {e : OpenEdit} {s : State}

/-- The answer of a command that has done its work on the marks, without data. -/
def marksDone (marks : MarkStore) (s : State) : Answer :=
  { result := .ok, data := [], state := { s with marks := marks } }

theorem takeMarkClose_closed (closed : s.marks.edit = none) : takeMarkClose h (b :: more) s = refuse .notOpen s := by
  simp only [takeMarkClose, closed]

/-- The cases of R161 for an open edit, in their order. -/
theorem takeMarkClose_open (edit : s.marks.edit = some e) : takeMarkClose h (b :: more) s =
    if e.holder ≠ h.sender then refuse .locked s
    else if b = 0 then marksDone { s.marks with edit := none } s
    else if b = 1 then
      if HeldInAChain s.control e.mark then refuse .busy s
      else marksDone { s.marks with edit := none,
                                    table := s.marks.table.set e.mark { record := some e.staged, unsaved := true } } s
    else refuse .badArg s := by
  simp only [takeMarkClose, edit, ← inChainSet_iff]
  rfl

theorem takeMarkErase_above (above : 64 ≤ b.toNat) : takeMarkErase (b :: more) s = refuse .badArg s := by
  simp only [takeMarkErase, markOf_above above]

/-- The cases of R162 in their order. -/
theorem takeMarkErase_named (named : n.val = b.toNat) : takeMarkErase (b :: more) s =
    if s.marks.save ≠ none then refuse .busy s
    else if HeldInAChain s.control n then refuse .busy s
    else if ∃ e, s.marks.edit = some e ∧ e.mark = n then refuse .locked s
    else marksDone { s.marks with table := s.marks.table.set n { record := none, unsaved := true } } s := by
  have staged : (∃ e, s.marks.edit = some e ∧ e.mark = n) ↔ (s.marks.edit.any fun e => e.mark == n) = true := by
    simp [Option.any_eq_true]
  simp only [takeMarkErase, markOf_val named, ← inChainSet_iff, staged, Option.isSome_iff_ne_none]
  rfl

end

/-- Settles O46: each command answers by the first case that fits, and what it writes is one slot of the table. -/
theorem closeAndEraseChangeOneSlot : Obligations.CloseAndEraseChangeOneSlot := by
  intro h b more s taken takes s' close erase gives written
  have closes {answer : Answer} (does : takeMarkClose h (b :: more) s' = answer) :
      close = .next (sendReply h answer.result answer.data answer.state) := edit_replies taken takes does
  have erases {answer : Answer} (does : takeMarkErase (b :: more) s' = answer) :
      erase = .next (sendReply h answer.result answer.data answer.state) := edit_replies taken takes does
  obtain ⟨peers, heard⟩ : ∃ peers, s' = { s with peers := peers } := ⟨_, heardFrom_eq _ s⟩
  clear_value s'
  subst heard
  refine ⟨?_, fun above => erases (takeMarkErase_above above), fun n named => ?_⟩
  · split
    case h_1 closed => exact closes (takeMarkClose_closed closed)
    case h_2 e edit =>
      have run := closes (takeMarkClose_open edit)
      dsimp only at run
      split_ifs at run ⊢ with foreign discard commit held
      iterate 3 exact run
      · exact ⟨_, run, set_writes s.marks.table e.mark _⟩
      · exact run
  · have run := erases (takeMarkErase_named named)
    dsimp only at run
    split_ifs at run ⊢ with saving held staged
    iterate 3 exact run
    exact ⟨_, run, set_writes s.marks.table n _⟩

/-! ### MARK_READ -/

theorem easeCode_eq (e : Ease) : (easeCode e : Int) = match e with
    | .cubic => 0
    | .quintic => 1
    | .cruise => 2 := by
  cases e <;> rfl

theorem authorityCode_eq (a : Authority) : (authorityCode a : Int) = if a = .follow then 0 else 1 := by
  cases a <;> rfl

theorem endActionCode_eq (e : EndAction) : (endActionCode e : Int) = if e = .release then 0 else 1 := by
  cases e <;> rfl

theorem linkCode_eq (k : Option MarkNo) : (linkCode k : Int) = match k with
    | none => 255
    | some k => k.val := by
  cases k <;> rfl

/-- A field code up to 10 names a field, and its value is read code by code (R163, R176). -/
theorem markFieldOf_listed {f : Byte} (listed : f.toNat < 11) : ∃ field, markFieldOf f = some field ∧
    ∀ m : Mark, markFieldValue m field = match f.toNat with
      | 0 => m.position
      | 1 => m.duration
      | 2 => easeCode m.ease
      | 3 => authorityCode m.authority
      | 4 => m.share
      | 5 => m.dwell
      | 6 => linkCode m.next
      | 7 => linkCode m.loopTo
      | 8 => m.repeats
      | 9 => if m.stop then 1 else 0
      | _ => endActionCode m.endAction := by
  unfold markFieldOf
  generalize f.toNat = code at listed
  match code with
  | 0 | 1 | 2 | 3 | 4 | 5 | 6 | 7 | 8 | 9 | 10 => exact ⟨_, rfl, fun _ => rfl⟩
  | _ + 11 => omega

theorem markFieldOf_above {f : Byte} (above : 11 ≤ f.toNat) : markFieldOf f = none := by
  unfold markFieldOf
  generalize f.toNat = code at above
  match code with
  | 0 | 1 | 2 | 3 | 4 | 5 | 6 | 7 | 8 | 9 | 10 => omega
  | _ + 11 => rfl

/-- The status byte shows VALID in bit 0 and unsaved in bit 1 (R176). -/
theorem statusByte_eq (slot : MarkSlot) : statusByte slot =
    if slot.record.isSome then (if slot.unsaved then 3 else 1) else if slot.unsaved then 2 else 0 := by
  unfold statusByte
  cases slot.record <;> cases slot.unsaved <;> rfl

section
variable {b f : Byte} {more : List Byte} {n : MarkNo} {m : Mark} {field : MarkField} {s : State}

theorem takeMarkRead_badArg (bad : 64 ≤ b.toNat ∨ 11 ≤ f.toNat) :
    takeMarkRead (b :: f :: more) s = refuse .badArg s := by
  rcases bad with above | above
  · simp only [takeMarkRead, markOf_above above]
  · simp only [takeMarkRead, markFieldOf_above above]
    cases markOf b <;> rfl

theorem takeMarkRead_empty (named : n.val = b.toNat) (listed : markFieldOf f = some field)
    (empty : s.marks.table[n].record = none) : takeMarkRead (b :: f :: more) s =
      { result := .empty, data := [if s.marks.table[n].unsaved then 2 else 0], state := s } := by
  simp only [takeMarkRead, markOf_val named, listed, statusByte_eq, empty]
  rfl

theorem takeMarkRead_valid (named : n.val = b.toNat) (listed : markFieldOf f = some field)
    (valid : s.marks.table[n].record = some m) : takeMarkRead (b :: f :: more) s =
      { result := .ok, data := (if s.marks.table[n].unsaved then 3 else 1) :: valueBytes (markFieldValue m field),
        state := s } := by
  simp only [takeMarkRead, markOf_val named, listed, statusByte_eq, valid]
  rfl

end

/-- Settles O47: the arguments name a slot and a field or neither, and the slot's status and value are spelled out. -/
theorem markReadReadsTheTable : Obligations.MarkReadReadsTheTable := by
  intro h b f more s taken takes outcome gives link
  have replies {answer : Answer} (does : takeMarkRead (b :: f :: more) (heardFrom h.sender s) = answer) :
      outcome = .next (sendReply h answer.result answer.data answer.state) := read_replies taken takes does
  have marks : (heardFrom h.sender s).marks = s.marks := hear_marks _ _ s
  refine ⟨fun bad => replies (takeMarkRead_badArg bad), fun n named low => ?_⟩
  intro unsaved
  obtain ⟨field, listed, value⟩ := markFieldOf_listed low
  split
  case h_1 empty =>
    have run := replies (takeMarkRead_empty named listed (marks ▸ empty))
    rw [marks] at run
    exact run
  case h_2 m valid =>
    have run := replies (takeMarkRead_valid named listed (marks ▸ valid))
    rw [marks, value, easeCode_eq, authorityCode_eq, endActionCode_eq, linkCode_eq, linkCode_eq] at run
    exact run

end Sys2Proof.Machine
end

section
/-! ## What an idle line takes (R168 to R171, R178) -/

namespace Sys2Proof.Machine

/-- An attempt is for the frame of the last one just where that frame is still in hand, not refilled (R169; log 31). -/
theorem sameAttempt_iff (k : SentKind) (b : BusController) :
    sameAttempt k b = true ↔ ∃ h, b.inHand = some h ∧ h.kind = k ∧ h.replaced = false := by
  unfold sameAttempt
  cases b.inHand <;> simp

section
variable {s : State}

theorem sending_of_idle (idle : ∀ h, s.bus.inHand = some h → h.sending = false) : sending s.bus = false := by
  unfold sending
  cases hand : s.bus.inHand with
  | none => rfl
  | some h => exact idle h hand

theorem startFrame_permanent (permanent : s.drive.permanent = true) : startFrame s = s := by
  rw [startFrame, permanent, Bool.true_or, if_pos rfl]

variable (open_ : ¬ s.drive.permanent = true) (idle : ∀ h, s.bus.inHand = some h → h.sending = false)
include open_ idle

theorem startFrame_nothing (nothing : nextFrame s.bus = none) : startFrame s = s := by
  simp only [startFrame, open_, sending_of_idle idle, nothing, Bool.or_false, Bool.false_eq_true, if_false]

theorem startFrame_next {k : SentKind} {f : SentFrame} (next : nextFrame s.bus = some (k, f)) : startFrame s =
    { s with bus := { s.bus with
        line := .frame s.startup.address f,
        inHand := some { kind := k, sending := true, replaced := false },
        echoErrors := if ∃ h, s.bus.inHand = some h ∧ h.kind = k ∧ h.replaced = false then s.bus.echoErrors
          else 0 } } := by
  simp only [startFrame, open_, sending_of_idle idle, next, sameAttempt_iff, Bool.or_false, Bool.false_eq_true,
    if_false]

end

/-- Settles O50: the slots are looked at in the order of their identifiers, and the first that holds a frame starts. -/
theorem idleLineSendsTheLowestIdentifier : Obligations.IdleLineSendsTheLowestIdentifier := by
  intro s running idle sends
  have starts {t : State} (run : startFrame s = t) : exec .frameSendStart s = .next t := by
    rw [exec, execFrameSendStart, whenRunning_running running, run]
  split
  case isTrue permanent => exact starts (startFrame_permanent permanent)
  case isFalse open_ =>
    have chosen {k : SentKind} {f : SentFrame} (next : nextFrame s.bus = some (k, f)) : sends k f :=
      starts (startFrame_next open_ idle next)
    cases halt : s.bus.haltSlot with
    | some c => exact chosen (by rw [nextFrame, halt])
    | none =>
      cases pace : s.bus.paceSlot with
      | some p => exact chosen (by rw [nextFrame, halt, pace])
      | none =>
        cases state : s.bus.stateSlot with
        | some f => exact chosen (by rw [nextFrame, halt, pace, state])
        | none =>
          cases replies : s.bus.replies with
          | cons r more => exact chosen (by rw [nextFrame, halt, pace, state, replies])
          | nil => exact starts (startFrame_nothing open_ idle (by rw [nextFrame, halt, pace, state, replies]))

end Sys2Proof.Machine
end

section
/-! ## The node's frames as a receiver reads them (R167, R172, R176)

A frame of the node passes the receiver's checks by its making, so that each kind comes to reading its payload's bytes
back: fields of several bytes, codes of half a byte, and flags, each of a weight above everything added before it. -/

namespace Sys2Proof.Machine

/-! ### Fields of several bytes, and numbers within a byte -/

theorem join16_bytes (b : BitVec 16) : join16 (b.extractLsb' 8 8) (b.extractLsb' 0 8) = b :=
  (BitVec.extractLsb'_append_extractLsb'_eq_extractLsb' rfl).trans BitVec.extractLsb'_eq_self

theorem join32_bytes (b : BitVec 32) :
    join32 (b.extractLsb' 24 8) (b.extractLsb' 16 8) (b.extractLsb' 8 8) (b.extractLsb' 0 8) = b := by
  have upper : b.extractLsb' 24 8 ++ b.extractLsb' 16 8 = b.extractLsb' 16 16 :=
    BitVec.extractLsb'_append_extractLsb'_eq_extractLsb' rfl
  have most : b.extractLsb' 16 16 ++ b.extractLsb' 8 8 = b.extractLsb' 8 24 :=
    BitVec.extractLsb'_append_extractLsb'_eq_extractLsb' rfl
  rw [join32, upper, most]
  exact (BitVec.extractLsb'_append_extractLsb'_eq_extractLsb' rfl).trans BitVec.extractLsb'_eq_self

theorem lowFive_setWidth (a : Addr) : lowFive (a.setWidth 8) = a := by
  rw [lowFive, BitVec.extractLsb'_setWidth_of_le (by decide)]
  exact BitVec.extractLsb'_eq_self

theorem lowSix_codeByte (n : Fin 64) : lowSix (codeByte n.val) = n := by
  apply Fin.ext
  change n.val % 256 % 64 = n.val
  omega

theorem lowHalf_codeByte (n : Nat) : (codeByte n).extractLsb' 0 4 = BitVec.ofNat 4 n := by
  apply BitVec.eq_of_toNat_eq
  simp only [codeByte, BitVec.extractLsb'_toNat, BitVec.toNat_ofNat, Nat.shiftRight_zero]
  omega

theorem highHalf_codeByte (n : Nat) : (codeByte n).extractLsb' 4 4 = BitVec.ofNat 4 (n / 16) := by
  apply BitVec.eq_of_toNat_eq
  simp only [codeByte, BitVec.extractLsb'_toNat, BitVec.toNat_ofNat, Nat.shiftRight_eq_div_pow]
  omega

/-! ### Flags over a number (R176) -/

section
variable {n i j : Nat} {b : Bool}

theorem add_flagBit_lt (below : n < 2 ^ i) : n + flagBit i b < 2 ^ (i + 1) := by
  have double : 2 ^ (i + 1) = 2 ^ i + 2 ^ i := Nat.two_pow_succ i
  unfold flagBit
  split <;> omega

theorem flagBit_lt : flagBit i b < 2 ^ (i + 1) := by
  rw [← Nat.zero_add (flagBit i b)]
  exact add_flagBit_lt (Nat.two_pow_pos i)

/-- A flag leaves the bits below its own as they are. -/
theorem testBit_add_flagBit_below (below : i < j) : (n + flagBit j b).testBit i = n.testBit i := by
  cases b with
  | false => rfl
  | true => rw [Nat.add_comm]; exact Nat.testBit_two_pow_add_gt below n

/-- A flag over a number below its own weight is read back. -/
theorem testBit_add_flagBit (below : n < 2 ^ i) : (n + flagBit i b).testBit i = b := by
  have clear : n.testBit i = false := Nat.testBit_lt_two_pow below
  cases b with
  | false => exact clear
  | true =>
    rw [Nat.add_comm]
    exact (Nat.testBit_two_pow_add_eq n i).trans (by rw [clear]; rfl)

theorem testBit_flagBit : (flagBit i b).testBit i = b := by
  rw [← Nat.zero_add (flagBit i b)]
  exact testBit_add_flagBit (Nat.two_pow_pos i)

theorem getLsbD_codeByte (within : i < 8) : (codeByte n).getLsbD i = n.testBit i := by
  rw [codeByte, BitVec.getLsbD_ofNat, decide_eq_true within, Bool.true_and]

/-- A flag in the upper half of a byte leaves the code in the lower half. -/
theorem ofNat_add_flagBit (upper : 4 ≤ j) : BitVec.ofNat 4 (n + flagBit j b) = BitVec.ofNat 4 n := by
  apply BitVec.eq_of_getLsbD_eq
  intro i low
  rw [BitVec.getLsbD_ofNat, BitVec.getLsbD_ofNat, testBit_add_flagBit_below (low.trans_le upper)]

end

/-- A code in the upper half of a byte leaves the one in the lower half. -/
theorem ofNat_add_upper (n m : Nat) : BitVec.ofNat 4 (n + 16 * m) = BitVec.ofNat 4 n := by
  apply BitVec.eq_of_toNat_eq
  exact Nat.add_mul_mod_self_left n 16 m

theorem add_upper_div {n : Nat} (half : n < 2 ^ 4) (m : Nat) : (n + 16 * m) / 16 = m := by omega

/-! ### Codes (R173, R176) -/

theorem axisKindField_lt (k : Option AxisKind) : axisKindField k < 2 ^ 4 := by
  rcases k with _ | k
  · decide
  · cases k <;> decide

theorem causeField_lt (c : Option Cause) : causeField c < 2 ^ 4 := by
  rcases c with _ | c
  · decide
  · cases c <;> decide

theorem cueResultCode_lt (r : CueResult) : cueResultCode r < 2 ^ 4 := by cases r <;> decide

theorem axisStateCode_lt (st : AxisState) : axisStateCode st < 2 ^ 4 := by cases st <;> decide

theorem axisKindOfCode_field (k : Option AxisKind) : axisKindOfCode (axisKindField k) = k := by
  rcases k with _ | k
  · rfl
  · cases k <;> rfl

theorem axisStateOfCode_code (st : AxisState) : axisStateOfCode (axisStateCode st) = some st := by cases st <;> rfl

theorem haltCauseOfCode_fault (c : FaultCause) :
    haltCauseOfCode (codeByte (causeCode (faultAsCause c))).toNat = faultAsCause c := by
  cases c <;> rfl

theorem toNat_ofNat_half {n : Nat} (half : n < 2 ^ 4) : (BitVec.ofNat 4 n).toNat = n := by
  rw [BitVec.toNat_ofNat, Nat.mod_eq_of_lt half]

/-! ### A frame's checks and its payload -/

/-- A received frame that passes the three checks is read under its kind (R172). -/
theorem decodeFrame_passed {f : RawFrame} (checked : f.check = frameCheck f.identifier f.length f.payload)
    (short : f.length.toNat ≤ 8) (long : minimumLength (identifierKind f.identifier) ≤ f.payload.length) :
    decodeFrame f = some (decodePayload (identifierKind f.identifier) (identifierSender f.identifier) f.payload) := by
  have fits : ¬ 9 ≤ f.length.toNat := Nat.not_le.mpr (Nat.lt_succ_of_le short)
  simp only [decodeFrame, ne_eq, checked, not_true_eq_false, fits, Nat.not_lt.mpr long, if_false]

/-- A frame of the node with a payload of its kind's length passes the checks (R167, R172). -/
theorem decodeFrame_rawFrame {f : SentFrame} (a : Addr) (short : (sentPayload f).length ≤ 8)
    (long : minimumLength (sentKindCode (sentKindOf f)) ≤ (sentPayload f).length) :
    decodeFrame (rawFrame a f) = some (decodePayload (sentKindCode (sentKindOf f)) a (sentPayload f)) := by
  have kind : identifierKind (rawFrame a f).identifier = sentKindCode (sentKindOf f) :=
    BitVec.extractLsb'_append_eq_left
  have sender : identifierSender (rawFrame a f).identifier = a := BitVec.extractLsb'_append_eq_right
  have length : (rawFrame a f).length.toNat ≤ 8 := by
    rw [rawFrame, BitVec.toNat_ofNat]
    exact (Nat.mod_le _ _).trans short
  have payload : (rawFrame a f).payload = sentPayload f := rfl
  have checked : (rawFrame a f).check =
      frameCheck (rawFrame a f).identifier (rawFrame a f).length (rawFrame a f).payload := by
    simp only [rawFrame]
  rw [decodeFrame_passed checked length (by rwa [kind]), kind, sender, payload]

/-- A PACE frame of the node as a receiver holds it. -/
def receivedPace (p : PaceFrame) : PacePayload :=
  { need := BitVec.ofNat 16 p.need, cue := p.cue, armed := p.armed, running := p.running, holding := p.holding,
    waiting := p.waiting, limited := p.limited, destination := p.destination }

/-- A STATE frame of the node as a receiver holds it. -/
def receivedState (f : StateFrame) : StatePayload :=
  { axisKind := BitVec.ofNat 4 (axisKindField f.axisKind), hand := false, saving := f.saving, recentre := f.recentre,
    limited := f.limited, axisState := BitVec.ofNat 4 (axisStateCode f.axisState),
    cueResult := BitVec.ofNat 4 (cueResultCode f.cueResult), cue := f.cue,
    cause := BitVec.ofNat 4 (causeField f.cause), pendingArm := f.pendingArm, positionPresent := f.position.isSome,
    position := BitVec.ofInt 32 (f.position.getD 0) }

theorem decodeFrame_halt (a : Addr) (c : FaultCause) :
    decodeFrame (rawFrame a (.halt c)) = some (.haltFrame a (codeByte (causeCode (faultAsCause c)))) := by
  have length : (sentPayload (.halt c)).length = 1 := rfl
  rw [decodeFrame_rawFrame a (length.trans_le (by decide)) length.ge]
  rfl

theorem decodeFrame_pace (a : Addr) (p : PaceFrame) :
    decodeFrame (rawFrame a (.pace p)) = some (.paceFrame a (receivedPace p)) := by
  have length : (sentPayload (.pace p)).length = 5 := rfl
  rw [decodeFrame_rawFrame a (length.trans_le (by decide)) length.ge]
  refine congrArg (fun q => some (Instr.paceFrame a q)) ?_
  have armed := flagBit_lt (i := 0) (b := p.armed)
  have running := add_flagBit_lt (b := p.running) armed
  have holding := add_flagBit_lt (b := p.holding) running
  have waiting := add_flagBit_lt (b := p.waiting) holding
  simp only [sentPayload, halfBytes, List.cons_append, List.nil_append, List.getD_cons_zero, List.getD_cons_succ,
    join16_bytes, lowSix_codeByte, getLsbD_codeByte, testBit_flagBit, testBit_add_flagBit_below, testBit_add_flagBit,
    armed, running, holding, waiting, Nat.reduceLT]
  rfl

theorem decodeFrame_state (a : Addr) (f : StateFrame) :
    decodeFrame (rawFrame a (.state f)) = some (.stateFrame a (receivedState f)) := by
  have length : (sentPayload (.state f)).length = 8 := rfl
  rw [decodeFrame_rawFrame a length.le length.ge]
  refine congrArg (fun q => some (Instr.stateFrame a q)) ?_
  have kind := axisKindField_lt f.axisKind
  have unset : (axisKindField f.axisKind).testBit 4 = false := Nat.testBit_lt_two_pow kind
  have kind5 : axisKindField f.axisKind < 2 ^ 5 := kind.trans (by decide)
  have saving := add_flagBit_lt (b := f.saving) kind5
  have recentre := add_flagBit_lt (b := f.recentre) saving
  have cause := causeField_lt f.cause
  have pending := add_flagBit_lt (b := f.pendingArm) cause
  simp only [sentPayload, valueBytes, List.cons_append, List.nil_append, List.getD_cons_zero, List.getD_cons_succ,
    join32_bytes, getLsbD_codeByte, testBit_add_flagBit_below, testBit_add_flagBit, kind5, saving, recentre, cause,
    pending, unset, lowHalf_codeByte, highHalf_codeByte, ofNat_add_flagBit, ofNat_add_upper, add_upper_div,
    axisStateCode_lt, Nat.reduceLT, Nat.reduceLeDiff]
  rfl

theorem decodeFrame_reply (a : Addr) (r : Reply) (short : r.data.length ≤ 5) :
    decodeFrame (rawFrame a (.reply r)) =
      some (.replyFrame a r.requester r.tag (BitVec.ofNat 8 (resultCode r.result)) r.data) := by
  have length : (sentPayload (.reply r)).length = r.data.length + 3 := rfl
  rw [decodeFrame_rawFrame a (by omega) (length ▸ Nat.le_add_left 3 _)]
  refine congrArg (fun x => some (Instr.replyFrame a x r.tag (codeByte (resultCode r.result)) r.data)) ?_
  exact lowFive_setWidth r.requester

/-- Settles O52: each kind is read back as its fields at their widths, and its codes name what was sent. -/
theorem sentFramesAreReadBack : Obligations.SentFramesAreReadBack := by
  intro a
  refine ⟨fun c => ?halt, fun p need => ?pace, fun f range => ?state, fun r short => decodeFrame_reply a r short⟩
  case halt => exact ⟨_, decodeFrame_halt a c, haltCauseOfCode_fault c⟩
  case pace =>
    have whole : (BitVec.ofNat 16 p.need).toNat = p.need := Nat.mod_eq_of_lt need
    exact ⟨_, decodeFrame_pace a p, whole, rfl, rfl, rfl, rfl, rfl, rfl, rfl⟩
  case state =>
    have kind : axisKindOfCode (receivedState f).axisKind.toNat = f.axisKind := by
      rw [receivedState, toNat_ofNat_half (axisKindField_lt _), axisKindOfCode_field]
    have state : axisStateOfCode (receivedState f).axisState.toNat = some f.axisState := by
      rw [receivedState, toNat_ofNat_half (axisStateCode_lt _), axisStateOfCode_code]
    have result : (receivedState f).cueResult.toNat = cueResultCode f.cueResult :=
      toNat_ofNat_half (cueResultCode_lt _)
    have cause : (receivedState f).cause.toNat = causeField f.cause := toNat_ofNat_half (causeField_lt _)
    refine ⟨_, decodeFrame_state a f, rfl, kind, state, result, rfl, cause, rfl, rfl, rfl, rfl, ?_⟩
    cases position : f.position with
    | none => simp only [receivedState, position, Option.isSome_none, Bool.false_eq_true, if_false]
    | some x =>
      obtain ⟨low, high⟩ := range x position
      simp only [receivedState, position, Option.isSome_some, if_true, Option.getD_some]
      exact congrArg some (BitVec.toInt_ofInt_eq_self (by decide) low high)

end Sys2Proof.Machine
end

section
/-! ## Configuration: CONFIG_SET and CONFIG_DONE (R179, R180) -/

namespace Sys2Proof.Machine

/-- A configuration command in SETUP, by what its owner answers once the sender is recorded (R154, R156). -/
theorem config_replies {h : CommandHeader} {s : State} {act : State → Answer} {answer : Answer} (taken : Taken h s)
    (setup : s.control.axisState = .setup) (does : act (heardFrom h.sender s) = answer) :
    (.next (command h .config act s) : Host.Outcome State Fault Refusal) =
      .next (sendReply h answer.result answer.data answer.state) := by
  have unparked : s.control.axisState ≠ .parked := by rw [setup]; nofun
  rw [command_taken taken .config act (.inl unparked), setup, ← does]
  rfl

/-! ### CONFIG_SET -/

theorem val_of_configFieldOf {f : Byte} {g : ConfigField} (named : configFieldOf f = some g) : g.val = f.toNat := by
  unfold configFieldOf at named
  split_ifs at named with listed
  exact congrArg Fin.val (Option.some.inj named).symm

/-- GRAB_LEVEL is 0, or 256 to 2047: what lies below, between and above moves to the nearest end named (R179). -/
theorem configStored_grabLevel (v : Int) : configStored 13 v =
    if v ≤ 0 then some 0 else if v < 256 then some 256 else if v ≤ 2047 then some v else some 2047 := by
  change (if v ≤ 0 then some 0 else some (clampInt 256 2047 v)) = _
  have inside : clampInt 256 2047 v = if v < 256 then 256 else if v ≤ 2047 then v else 2047 := by
    unfold clampInt
    split_ifs <;> omega
  rw [inside, apply_ite some, apply_ite some]

/-- What a field code stores of a value, code by code (R176, R179). -/
theorem configStored_of_code (f : Byte) (v : Int) :
    ((configFieldOf f).bind fun g => configStored g v) =
      match f.toNat with
      | 0 => if 0 ≤ v ∧ v ≤ 9 then some v else none
      | 1 | 2 => some v
      | 3 | 5 => some (clampInt 1 50000000 v)
      | 4 => some (clampInt 1 500000000 v)
      | 6 => some (clampInt 0 2147483647 v)
      | 7 => some (clampInt 50 5000 v)
      | 8 => if v = 1 ∨ v = 2 ∨ v = 4 then some v else none
      | 9 | 10 => if (0 ≤ v ∧ v ≤ 63) ∨ v = 255 then some v else none
      | 11 => some (clampInt 0 255 v)
      | 12 => some (clampInt 0 256 v)
      | 13 => if v ≤ 0 then some 0 else if v < 256 then some 256 else if v ≤ 2047 then some v else some 2047
      | 14 => some (clampInt 1 2147483647 v)
      | 15 => some (clampInt 500 50000 v)
      | 16 => some (clampInt 100 20000 v)
      | 17 => some (clampInt 500 100000 v)
      | _ => none := by
  unfold configFieldOf
  generalize f.toNat = code
  match code with
  | 13 => exact configStored_grabLevel v
  | 0 | 1 | 2 | 3 | 4 | 5 | 6 | 7 | 8 | 9 | 10 | 11 | 12 | 14 | 15 | 16 | 17 => rfl
  | n + 18 => rw [dif_neg (Nat.not_lt.mpr (Nat.le_add_left 18 n))]; rfl

section
variable {f b3 b2 b1 b0 : Byte} {more : List Byte} {g : ConfigField} {x : Int} {s : State}

theorem takeConfigSet_busy (writing : s.startup.write.isSome) :
    takeConfigSet (f :: b3 :: b2 :: b1 :: b0 :: more) s = refuse .busy s := if_pos writing

/-- A code that names no field, or a value not allowed for its field, is BAD_ARG (R179). -/
theorem takeConfigSet_refused (idle : ¬ s.startup.write.isSome)
    (bad : ((configFieldOf f).bind fun g => configStored g (valueOf b3 b2 b1 b0)) = none) :
    takeConfigSet (f :: b3 :: b2 :: b1 :: b0 :: more) s = refuse .badArg s := by
  simp only [takeConfigSet, if_neg idle]
  cases named : configFieldOf f with
  | none => rfl
  | some g =>
    rw [named, Option.bind_some] at bad
    simp only [bad]

/-- A value that its field stores is staged, and the reply carries what is stored now (R179). -/
theorem takeConfigSet_stored (idle : ¬ s.startup.write.isSome) (named : configFieldOf f = some g)
    (stored : configStored g (valueOf b3 b2 b1 b0) = some x) :
    takeConfigSet (f :: b3 :: b2 :: b1 :: b0 :: more) s =
      { result := if x = valueOf b3 b2 b1 b0 then .ok else .clamped, data := f :: valueBytes x,
        state := { s with startup.staged := s.startup.staged.set g (some x) } } := by
  simp only [takeConfigSet, if_neg idle, named, stored]

end

/-- Settles O6: the field's code says what is stored of the value, and what is stored goes to the field it names. -/
theorem configSetStagesAField : Obligations.ConfigSetStagesAField := by
  intro h f b3 b2 b1 b0 more s taken setup v c s' clampTo stored
  have replies {answer : Answer} (does : takeConfigSet (f :: b3 :: b2 :: b1 :: b0 :: more) s' = answer) :
      exec c s = .next (sendReply h answer.result answer.data answer.state) := config_replies taken setup does
  have startup : s'.startup = s.startup := hear_startup _ _ s
  have same : ((configFieldOf f).bind fun g => configStored g v) = stored := (configStored_of_code f v).trans rfl
  clear_value stored s'
  split
  case isTrue writing => exact replies (takeConfigSet_busy (startup ▸ writing))
  case isFalse idle =>
    rw [← startup] at idle
    cases stored with
    | none => exact replies (takeConfigSet_refused idle same)
    | some x =>
      obtain ⟨g, named, stored⟩ := Option.bind_eq_some_iff.mp same
      refine ⟨g, val_of_configFieldOf named, ?_⟩
      rw [← startup]
      exact replies (takeConfigSet_stored idle named stored)

/-! ### The check of CONFIG_DONE -/

/-- The fields that the check looks at: BASE_LENGTH on a TELESCOPE alone, TIP_SPEED and ASSUMED_LENGTH on a SWING or a
LIFT (R180). -/
def CheckedField (st : StagedConfiguration) (f : ConfigField) : Prop :=
  f.val < 15 ∨ (f.val = 15 ∧ st[0] = some 0) ∨ (15 < f.val ∧ (st[0] = some 1 ∨ st[0] = some 2))

/-- A field that fails its check against other fields, where they are set: LIMIT_HIGH, LIVE_RATE and TRIM_MAX have one
(R180; log 20). -/
def FailsRelation (st : StagedConfiguration) (f : ConfigField) : Prop :=
  (f.val = 2 ∧ ∃ low high, st[1] = some low ∧ st[2] = some high ∧ high ≤ low) ∨
  (f.val = 5 ∧ ∃ vel rate, st[3] = some vel ∧ st[5] = some rate ∧ vel < rate) ∨
  (f.val = 6 ∧ ∃ low high trim, st[1] = some low ∧ st[2] = some high ∧ st[6] = some trim ∧ high - low < trim)

/-- A field that the check looks at and that is unset or fails against other fields (R180). -/
def FailsCheck (st : StagedConfiguration) (f : ConfigField) : Prop :=
  CheckedField st f ∧ (st[f] = none ∨ FailsRelation st f)

section
variable {st : StagedConfiguration} {f : ConfigField} {v : Int}

theorem configFieldUsed_iff : configFieldUsed st[0] f = true ↔ CheckedField st f := by
  obtain ⟨code, listed⟩ := f
  unfold configFieldUsed CheckedField
  dsimp only
  split
  case h_1 => simp
  case h_2 => simp
  case h_3 => simp
  case h_4 other15 other16 other17 =>
    have others : code ≠ 15 ∧ code ≠ 16 ∧ code ≠ 17 := ⟨other15, other16, other17⟩
    have low : code < 15 := by omega
    simp [low]

theorem configRelationHolds_false_iff (given : st[f] = some v) :
    configRelationHolds st f v = false ↔ FailsRelation st f := by
  obtain ⟨code, listed⟩ := f
  unfold configRelationHolds FailsRelation
  dsimp only
  split
  case h_1 =>
    have high : st[2] = some v := given
    cases low : st[1] <;> simp [high]
  case h_2 =>
    have rate : st[5] = some v := given
    cases vel : st[3] <;> simp [rate]
  case h_3 =>
    have trim : st[6] = some v := given
    cases low : st[1] <;> cases high : st[2] <;> simp [trim]
  case h_4 other2 other5 other6 =>
    exact iff_of_false (by simp) fun h => h.elim (other2 ·.1) (·.elim (other5 ·.1) (other6 ·.1))

theorem configFieldFails_iff : configFieldFails st f = true ↔ FailsCheck st f := by
  rw [configFieldFails, Bool.and_eq_true, configFieldUsed_iff, FailsCheck]
  refine and_congr_right fun _ => ?_
  cases value : st[f] with
  | none => simp
  | some v => simp [configRelationHolds_false_iff value]

theorem configFields_eq : configFields = List.finRange 18 := rfl

theorem firstFailure_of_first (fails : FailsCheck st f) (first : ∀ g, g < f → ¬ FailsCheck st g) :
    firstFailure st = some f := by
  rw [firstFailure, configFields_eq, List.find?_eq_some_iff_getElem]
  refine ⟨configFieldFails_iff.mpr fails, f.val, by simp, by simp, fun j before => ?_⟩
  have passes := mt configFieldFails_iff.mp (first ⟨j, before.trans f.isLt⟩ before)
  simpa using passes

theorem firstFailure_of_passes (passes : ∀ f, ¬ FailsCheck st f) : firstFailure st = none :=
  List.find?_eq_none.mpr fun f _ => mt configFieldFails_iff.mp (passes f)

end

/-! ### The record that CONFIG_DONE makes -/

theorem exists_axisKind {k : Int} (low : 0 ≤ k) (high : k ≤ 9) :
    ∃ kind, axisKindOfCode k.toNat = some kind ∧ (axisKindCode kind : Int) = k := by
  interval_cases k <;> exact ⟨_, rfl, rfl⟩

theorem exists_period {p : Int} (allowed : p = 1 ∨ p = 2 ∨ p = 4) :
    ∃ period, periodOfMs p = some period ∧ (periodMs period : Int) = p := by
  rcases allowed with rfl | rfl | rfl <;> exact ⟨_, rfl, rfl⟩

theorem exists_channel {d : Int} (allowed : (0 ≤ d ∧ d ≤ 63) ∨ d = 255) :
    ∃ channel, linkOfCode d = some channel ∧ (linkCode channel : Int) = d := by
  have named : ∃ channel, linkOfCode d = some channel := by
    rw [linkOfCode_eq]
    rcases allowed with ⟨low, high⟩ | rfl
    · exact ⟨_, dif_pos ⟨low, by omega⟩⟩
    · exact ⟨none, rfl⟩
  obtain ⟨channel, code⟩ := named
  exact ⟨channel, code, linkCode_of code⟩

/-- A record and a staged configuration that hold the same, each of the eighteen at its field (R179, R180). -/
def Records (st : StagedConfiguration) (c : Configuration) : Prop :=
  st[0] = some (axisKindCode c.axisKind : Int) ∧ st[1] = some c.limitLow ∧ st[2] = some c.limitHigh ∧
  st[3].map Int.toNat = some c.velMax ∧ st[4].map Int.toNat = some c.accMax ∧
  st[5].map Int.toNat = some c.liveRate ∧ st[6].map Int.toNat = some c.trimMax ∧
  st[7].map Int.toNat = some c.crossfade ∧ st[8] = some (periodMs c.period : Int) ∧
  st[9] = some (linkCode c.demandChannel : Int) ∧ st[10] = some (linkCode c.dialChannel : Int) ∧
  st[11].map Int.toNat = some c.deadband ∧ st[12].map Int.toNat = some c.expo ∧
  st[13].map Int.toNat = some c.grabLevel ∧ st[14].map Int.toNat = some c.followLimit ∧
  st[15].map Int.toNat = c.baseLength ∧ st[16].map Int.toNat = c.tipSpeed ∧ st[17].map Int.toNat = c.assumedLength

/-- A staged configuration with its fields 0 to 14 set, and codes at those that are coded, makes a record. -/
theorem exists_configurationOf {st : StagedConfiguration} (set : ∀ f : ConfigField, f.val < 15 → st[f] ≠ none)
    (kinds : ∀ k, st[0] = some k → 0 ≤ k ∧ k ≤ 9) (periods : ∀ p, st[8] = some p → p = 1 ∨ p = 2 ∨ p = 4)
    (channels : ∀ d, st[9] = some d ∨ st[10] = some d → (0 ≤ d ∧ d ≤ 63) ∨ d = 255) :
    ∃ c, configurationOf st = some c ∧ Records st c := by
  obtain ⟨value, holds⟩ : ∃ value : ConfigField → Int, ∀ i (needed : i < 15), st[i] = some (value ⟨i, by omega⟩) := by
    refine ⟨fun f => st[f].getD 0, fun i needed => ?_⟩
    obtain ⟨v, given⟩ := Option.ne_none_iff_exists'.mp (set ⟨i, by omega⟩ needed)
    exact given.trans (congrArg some (congrArg (·.getD 0) given).symm)
  obtain ⟨lowKind, highKind⟩ := kinds _ (holds 0 (by decide))
  obtain ⟨kind, ofKind, kindCode⟩ := exists_axisKind lowKind highKind
  obtain ⟨period, ofPeriod, periodCode⟩ := exists_period (periods _ (holds 8 (by decide)))
  obtain ⟨demand, ofDemand, demandCode⟩ := exists_channel (channels _ (.inl (holds 9 (by decide))))
  obtain ⟨dial, ofDial, dialCode⟩ := exists_channel (channels _ (.inr (holds 10 (by decide))))
  refine ⟨{ axisKind := kind, limitLow := value 1, limitHigh := value 2, velMax := (value 3).toNat,
            accMax := (value 4).toNat, liveRate := (value 5).toNat, trimMax := (value 6).toNat,
            crossfade := (value 7).toNat, period, demandChannel := demand, dialChannel := dial,
            deadband := (value 11).toNat, expo := (value 12).toNat, grabLevel := (value 13).toNat,
            followLimit := (value 14).toNat, baseLength := st[15].map Int.toNat,
            tipSpeed := st[16].map Int.toNat, assumedLength := st[17].map Int.toNat }, ?made, ?records⟩
  case made =>
    simp only [configurationOf, holds, Nat.reduceLT, ofKind, ofPeriod, ofDemand, ofDial, Option.bind_eq_bind,
      Option.bind_some]
    rfl
  case records =>
    simp only [Records, holds, Nat.reduceLT, kindCode, periodCode, demandCode, dialCode, Option.map_some]
    trivial

/-! ### The answers of CONFIG_DONE -/

section
variable {f : ConfigField} {c : Configuration} {s : State}

theorem takeConfigDone_busy (writing : s.startup.write ≠ none) : takeConfigDone s = refuse .busy s :=
  if_pos (Option.isSome_iff_ne_none.mpr writing)

theorem takeConfigDone_failed (idle : s.startup.write = none) (found : firstFailure s.startup.staged = some f) :
    takeConfigDone s = { result := .badArg, data := [codeByte f.val], state := s } := by
  simp only [takeConfigDone, idle, found, Option.isSome_none, Bool.false_eq_true, if_false]

/-- The write of a record that passed the check starts (R180). -/
theorem takeConfigDone_written (idle : s.startup.write = none) (passed : firstFailure s.startup.staged = none)
    (made : configurationOf s.startup.staged = some c) : takeConfigDone s =
      { result := .ok, data := [], state := { s with startup.write := some { record := c, elapsed := 0 } } } := by
  simp only [takeConfigDone, idle, passed, made, Option.isSome_none, Bool.false_eq_true, if_false]

end

/-- Settles O7: the check's first failure is the field named, and a record that passes it holds what is staged. -/
theorem configDoneChecksTheRecord : Obligations.ConfigDoneChecksTheRecord := by
  intro h args s taken setup st used fails s'
  have replies {answer : Answer} (does : takeConfigDone s' = answer) :
      exec (.configDone h args) s = .next (sendReply h answer.result answer.data answer.state) :=
    config_replies taken setup does
  have startup : s'.startup = s.startup := hear_startup _ _ s
  have staged : s'.startup.staged = st := congrArg (·.staged) startup
  refine ⟨fun writing => ?busy, fun idle f failing first => ?failed, fun idle passes kinds periods channels => ?written⟩
  case busy =>
    exact replies (takeConfigDone_busy (startup ▸ writing))
  case failed =>
    have found : firstFailure st = some f := firstFailure_of_first failing first
    exact replies (takeConfigDone_failed (startup ▸ idle) (staged ▸ found))
  case written =>
    have passed : firstFailure st = none := firstFailure_of_passes passes
    have set (f : ConfigField) (needed : f.val < 15) : st[f] ≠ none := fun unset =>
      passes f ⟨.inl needed, .inl unset⟩
    obtain ⟨c, made, records⟩ := exists_configurationOf set kinds periods channels
    refine ⟨c, ?_, limitsOrdered_configurationOf passed made, records⟩
    exact replies (takeConfigDone_written (startup ▸ idle) (staged ▸ passed) (staged ▸ made))

end Sys2Proof.Machine
end

section
/-! ## The queue (log 1)

The queue is the step's alone: no operation of the node touches it, and most leave it with the standing part. -/

namespace Sys2Proof.Machine

/-- A step with a command waiting runs it on the node with the queue's rest. -/
theorem step_cons (c : Instr) (rest : List Instr) (s : State) :
    step { s with pending := c :: rest } = exec c { s with pending := rest } := rfl

/-- Settles O1: the step's equation on a queue that is not empty. -/
theorem stepRunsTheFrontCommand : Obligations.StepRunsTheFrontCommand := step_cons

/-- What keeps the standing part keeps the queue. -/
theorem pending_of_standing {s t : State} (h : standing t = standing s) : t.pending = s.pending :=
  congrArg Standing.pending h

/-- What keeps the steady part keeps the queue. -/
theorem pending_of_steady {s t : State} (h : steady t = steady s) : t.pending = s.pending :=
  congrArg Steady.pending h

/-! ### Events -/

@[simp] theorem reportFault_pending (cause : FaultCause) (s : State) : (reportFault cause s).pending = s.pending :=
  pending_of_standing (standing_reportFault cause s)

@[simp] theorem reportDrive_pending (cause : FaultCause) (s : State) : (reportDrive cause s).pending = s.pending :=
  pending_of_standing (standing_reportDrive cause s)

@[simp] theorem enterLiveAt_pending (x : Int) (s : State) : (enterLiveAt x s).pending = s.pending :=
  pending_of_steady (steady_enterLiveAt x s)

@[simp] theorem takeCountedLoss_pending (s : State) : (takeCountedLoss s).pending = s.pending :=
  pending_of_steady (steady_takeCountedLoss s)

@[simp] theorem enterWaking_pending (s : State) : (enterWaking s).pending = s.pending :=
  enterState_pending .waking _

theorem dropFrame_pending (hand : InHand) (s : State) : (dropFrame hand s).pending = s.pending :=
  reportFault_pending .link _

theorem stopChange_pending (active : Bool) (s : State) : (stopChange active s).pending = s.pending := by
  unfold stopChange
  dsimp only
  split
  · rfl
  · split
    · split
      · exact haltNode_pending _ _
      · rfl
    · split
      · exact enterLiveAt_pending _ _
      · rfl

theorem staleDemand_pending (s : State) : (staleDemand s).pending = s.pending := by
  unfold staleDemand; split <;> rfl

theorem releaseChannel_pending (ch : Channel) (s : State) : (releaseChannel ch s).pending = s.pending := by
  cases ch <;> rfl

theorem losePeer_pending (a : Addr) (s : State) : (losePeer a s).pending = s.pending := by
  unfold losePeer
  split
  · dsimp only
    split
    · exact takeCountedLoss_pending _
    · rfl
  · rfl

theorem slotWriteEnd_pending (s : State) : (slotWriteEnd s).pending = s.pending := by
  obtain ⟨marks, slots, ended⟩ := slotWriteEnd_frame s
  rw [ended]

theorem configWriteEnd_pending (s : State) : (configWriteEnd s).pending = s.pending := by
  unfold configWriteEnd
  split
  · rfl
  · exact enterWaking_pending _

theorem startFrame_pending (s : State) : (startFrame s).pending = s.pending := by
  unfold startFrame
  split
  · rfl
  · split <;> rfl

theorem loseContention_pending (s : State) : (loseContention s).pending = s.pending := by
  unfold loseContention
  split
  · split <;> rfl
  · rfl

theorem takeEchoError_pending (s : State) : (takeEchoError s).pending = s.pending := by
  unfold takeEchoError
  split
  · split
    · dsimp only
      split
      · exact dropFrame_pending _ _
      · rfl
    · rfl
  · rfl

theorem dropEvent_pending (s : State) : (dropEvent s).pending = s.pending := by
  unfold dropEvent
  split
  · exact dropFrame_pending _ _
  · rfl

theorem frameSent_pending (s : State) : (frameSent s).pending = s.pending := by
  unfold frameSent
  split
  · split <;> rfl
  · rfl

/-- No event of a running node touches the queue. -/
theorem Event.pending {f : State → State} (e : Event f) (s : State) : (f s).pending = s.pending := by
  cases e with
  | update => exact pending_of_standing (standing_update s)
  | paceInterval => exact pending_of_standing (standing_paceInterval s)
  | driveLost => exact reportDrive_pending _ _
  | following => exact reportDrive_pending _ _
  | feedback r => exact pending_of_standing (standing_takeFeedback r s)
  | stopChange active => exact stopChange_pending active s
  | settle => exact pending_of_standing (standing_settleExpiry s)
  | armExpiry => exact pending_of_standing (standing_armExpiry s)
  | staleDemand => exact staleDemand_pending s
  | staleDial => rfl
  | releaseChannel ch => exact releaseChannel_pending ch s
  | grab => exact pending_of_standing (standing_grabExpiry s)
  | losePeer a => exact losePeer_pending a s
  | lease => rfl
  | slotWrite => exact slotWriteEnd_pending s
  | configWrite => exact configWriteEnd_pending s
  | stateInterval => exact pending_of_standing (standing_stateInterval s)
  | sendStart => exact startFrame_pending s
  | lostContention => exact loseContention_pending s
  | echoError => exact takeEchoError_pending s
  | drop => exact dropEvent_pending s
  | sentIntact => exact frameSent_pending s
  | clash => exact pending_of_standing (standing_reportClash s)

/-! ### Received frames -/

theorem demandPart_pending (a : Addr) (p : DemandPayload) (s : State) : (demandPart a p s).pending = s.pending := by
  unfold demandPart
  split
  · split <;> rfl
  · rfl

theorem dialPart_pending (a : Addr) (p : DemandPayload) (s : State) : (dialPart a p s).pending = s.pending := by
  rw [dialPart_eq]

theorem takeDemandFrame_pending (a : Addr) (p : DemandPayload) (s : State) :
    (takeDemandFrame a p s).pending = s.pending := by
  unfold takeDemandFrame
  split
  · rfl
  · rw [dialPart_pending, demandPart_pending]

/-- No received frame touches the queue once its sender is recorded. -/
theorem Handling.pending {f : State → State} (e : Handling f) (s : State) : (f s).pending = s.pending := by
  cases e with
  | recordOnly => rfl
  | halt code => exact pending_of_steady (steady_takeHalt code s)
  | arm cue first => exact pending_of_steady (steady_takeArm cue first s)
  | go cue nest => exact pending_of_steady (steady_takeGo cue nest s)
  | hold cue => exact pending_of_steady (steady_takeHold cue s)
  | resume cue => exact pending_of_steady (steady_takeResume cue s)
  | abort cue => exact pending_of_steady (steady_takeAbort cue s)
  | returnCue cue duration => exact pending_of_steady (steady_takeReturn cue duration s)
  | demand a p => exact takeDemandFrame_pending a p s
  | pace a p => rw [leaveCounted_eq]
  | poll target => exact pending_of_standing (standing_takePoll target s)

/-! ### COMMANDs -/

/-- No owner's answer to a COMMAND touches the queue. -/
theorem Owner.pending {k : CommandClass} {act : State → Answer} (o : Owner k act) (s : State) :
    (act s).state.pending = s.pending := by
  have edited {act : State → Answer} (o : Owner .edit act) : (act s).state.pending = s.pending := by
    obtain ⟨marks, slots, written⟩ := (o.markWork s).frame
    rw [written]
  have configured {act : State → Answer} (o : Owner .config act) : (act s).state.pending = s.pending := by
    obtain ⟨staged, write, written⟩ := o.config_frame s
    rw [written]
  cases o with
  | markOpen head args => exact edited (.markOpen head args)
  | markSet head args => exact edited (.markSet head args)
  | markClose head args => exact edited (.markClose head args)
  | markErase args => exact edited (.markErase args)
  | save => exact edited .save
  | markRead args => rw [takeMarkRead_state]
  | peerRead args => rw [takePeerRead_state]
  | park => exact pending_of_standing (standing_takePark s)
  | wake => exact enterWaking_pending s
  | clear => exact pending_of_standing (standing_takeClear s)
  | configSet args => exact configured (.configSet args)
  | configDone => exact configured .configDone
  | unknown => rfl

/-! ### Reset and loading -/

theorem releaseReset_pending (address : Addr) (strap : Bool) (s : State) :
    (releaseReset address strap s).pending = s.pending := by
  unfold releaseReset; split <;> rfl

theorem firstState_pending (s : State) : (firstState s).pending = s.pending := by
  unfold firstState
  split
  · dsimp only
    split <;> rfl
  · split
    · exact queueState_pending s
    · split
      · exact queueState_pending _
      · exact enterWaking_pending _

theorem loadingEnd_pending (s : State) : (loadingEnd s).pending = s.pending := by
  unfold loadingEnd
  split
  · exact firstState_pending (loadStore s)
  · rfl

/-! ### Every command -/

theorem heardFrom_pending (a : Addr) (s : State) : (heardFrom a s).pending = s.pending := hear_pending a _ s

/-- Whatever a command comes to, the queue stands. -/
theorem Effect.pending {s t : State} {c : Instr} (e : Effect s c t) : t.pending = s.pending := by
  cases e with
  | reset => rfl
  | release _ address strap => exact releaseReset_pending address strap s
  | loaded => exact loadingEnd_pending s
  | pin => rfl
  | nothing => rfl
  | event _ e => exact e.pending s
  | frame _ e => rw [e.pending, hear_pending]
  | refused => rw [sendReply_pending, heardFrom_pending]
  | answered _ _ o => rw [sendReply_pending, o.pending, heardFrom_pending]

/-- Settles O2: every command has one of the effects, and none of them touches the queue. -/
theorem everyCommandCompletes : Obligations.EveryCommandCompletes := by
  intro c s
  obtain ⟨t, done, effect⟩ := exec_effect c s
  exact ⟨t, done, effect.pending⟩

end Sys2Proof.Machine
end

section
/-! ## Laws of the axis state's records (R21, R22, R32, R50, R131, R132, R135, R139)

Two laws, of the records of run control and of the stop input with the enable output, read the same outline of a state.
Every operation either keeps the outline, or is one of few changes of it; the operations are walked through once, for
any predicate that keeps these changes. -/

namespace Sys2Proof.Machine

variable {s t : State}

/-! ### What the two laws read -/

/-- The phase, the stop input, the axis state, which records there are, and the drive link's fault, capture and
enable. -/
structure Outline where
  phase : Phase
  stopInput : Bool
  axisState : AxisState
  run : Bool
  arm : Bool
  stacked : Nat
  halted : Bool
  held : Bool
  settling : Bool
  faultCause : Option FaultCause
  captured : Bool
  enable : Bool

/-- The outline of a state. -/
def outline (s : State) : Outline :=
  { phase := s.startup.phase, stopInput := s.stopInput, axisState := s.control.axisState,
    run := s.control.run.isSome, arm := s.control.arm.isSome, stacked := s.control.stack.length,
    halted := s.control.haltCause.isSome, held := s.control.holdCause.isSome,
    settling := s.control.settle.isSome, faultCause := s.drive.faultCause, captured := s.drive.captured,
    enable := s.drive.enable }

/-- Where a node stands, whatever its records: its phase, its stop input, its axis state. -/
def stance (s : State) : Phase × Bool × AxisState := (s.startup.phase, s.stopInput, s.control.axisState)

@[simp] theorem outline_queueState (s : State) : outline (queueState s) = outline s := by simp [outline]

@[simp] theorem outline_sendPace (need : Nat) (s : State) : outline (sendPace need s) = outline s := by
  simp [outline]

@[simp] theorem outline_queuePace (s : State) : outline (queuePace s) = outline s := outline_sendPace _ s

@[simp] theorem outline_hear (a : Addr) (f : PeerEntry → PeerEntry) (s : State) :
    outline (hear a f s) = outline s := by simp [outline]

@[simp] theorem outline_onSegment (f : Segment → Segment) (s : State) :
    outline (onSegment f s) = outline s := by simp [outline]

@[simp] theorem outline_freezePath (s : State) : outline (freezePath s) = outline s := by simp [outline]

@[simp] theorem outline_cueAnswer (r : CueResult) (s : State) : outline (cueAnswer r s) = outline s := rfl

/-- A run rewritten in its place. -/
theorem outline_withRun {r : RunContext} (run : s.control.run = some r) (q : RunContext) :
    outline (withRun q s) = outline s := by simp [outline, withRun, run]

theorem outline_paceInterval (s : State) : outline (paceInterval s) = outline s := by
  unfold paceInterval; split <;> simp

theorem outline_paceCheck (s : State) : outline (paceCheck s) = outline s := by
  unfold paceCheck; split <;> simp

theorem outline_stateInterval (s : State) : outline (stateInterval s) = outline s := by
  unfold stateInterval; split <;> simp

theorem outline_takePoll (target : Option Addr) (s : State) : outline (takePoll target s) = outline s := by
  unfold takePoll
  split
  · simp
  · split <;> simp

theorem outline_leaveCounted (a : Addr) (p : PacePayload) (s : State) :
    outline (leaveCounted a p s) = outline s := by rw [leaveCounted_eq]; rfl

theorem outline_staleDemand (s : State) : outline (staleDemand s) = outline s := by
  unfold staleDemand; split <;> rfl

theorem outline_releaseChannel (ch : Channel) (s : State) : outline (releaseChannel ch s) = outline s := by
  cases ch <;> rfl

theorem outline_startFrame (s : State) : outline (startFrame s) = outline s := by
  unfold startFrame
  split
  · rfl
  · split <;> rfl

theorem outline_loseContention (s : State) : outline (loseContention s) = outline s := by
  unfold loseContention
  split
  · split <;> rfl
  · rfl

theorem outline_frameSent (s : State) : outline (frameSent s) = outline s := by
  unfold frameSent
  split
  · split <;> rfl
  · rfl

theorem outline_takeDemandFrame (a : Addr) (p : DemandPayload) (s : State) :
    outline (takeDemandFrame a p s) = outline s := by
  unfold takeDemandFrame
  split
  · rfl
  · rw [dialPart_eq]
    change outline (demandPart a p s) = outline s
    unfold demandPart
    split
    · split <;> rfl
    · rfl

theorem outline_sendRecord (pair : Option (Int × Int)) (s : State) : outline (sendRecord pair s) = outline s := by
  obtain ⟨x, r, sent⟩ := sendRecord_opens pair s
  rw [sent]; rfl

theorem outline_slotWriteEnd (s : State) : outline (slotWriteEnd s) = outline s := by
  obtain ⟨marks, slots, ended⟩ := slotWriteEnd_frame s
  rw [ended]; rfl

theorem outline_liveStage (c : Configuration) (s : State) : outline (liveStage c s).1 = outline s := by
  obtain ⟨remainder, trim, live, staged⟩ := liveStage_frame c s
  rw [staged]; rfl

theorem outline_mixStage (c : Configuration) (path : Option Int) (clamped : Bool) (s : State) :
    outline (mixStage c path clamped s).state = outline s := by
  rw [mixStage_state]; rfl

theorem outline_ageAll (s : State) : outline (ageAll s) = outline s := by
  simp [outline, ageAll, ageClocks, ageStores, ageHeard, ageControl, timerUp]

/-! ### The changes -/

/-- A predicate on the outline that the changes of axis state, and of the records a state holds, keep. A change is made
from a node `u` that stands as a node `s` with the predicate does, its records made ready for the new state. -/
structure KeptByRecords (P : State → Prop) : Prop where
  congr : ∀ {s t}, P s → outline t = outline s → P t
  /-- HALTED is entered with its cause, and FAULT with its own, from any node. -/
  halts : ∀ cause u, P (haltNode cause u)
  faults : ∀ cause u, P (enterFault cause u)
  lost : ∀ s, P s → s.control.axisState = .fault →
    P { s with drive := { s.drive with faultCause := some .driveLost, enable := false } }
  captured : ∀ s, P s → s.control.axisState = .waking →
    P { s with drive := { s.drive with captured := true, enable := true } }
  wakes : ∀ u, P (enterWaking u)
  parks : ∀ u, P (parkNode u)
  lives : ∀ s u, P s → stance u = stance s → P (enterState .live u)
  /-- From a state with a run to another: the run stays, and the stack does not grow. -/
  moves : ∀ new s u, P s → stance u = stance s → hasRun s.control.axisState = true → hasRun new = true →
    u.control.run.isSome = s.control.run.isSome → u.control.stack.length ≤ s.control.stack.length →
    (new = .holding → u.control.holdCause.isSome = true) → P (enterState new u)
  starts : ∀ s u, P s → stance u = stance s → u.control.run.isSome = true →
    u.control.stack.length ≤ s.control.stack.length ∨ u.control.stack.length ≤ stackRoom →
    P (readStop s.control.axisState (queuePace (changeState .running u)))
  arms : ∀ s u, P s → stance u = stance s → u.control.arm.isSome = true →
    P (readStop s.control.axisState (queuePace (changeState .armed u)))
  rearmed : ∀ a s, P s → working s.control.axisState = true →
    P { s with control := { s.control with arm := some a } }
  disarmed : ∀ s, P s → s.control.axisState ≠ .armed → P { s with control := { s.control with arm := none } }
  pinned : ∀ active s, P s → (active = false → s.startup.phase = .running → working s.control.axisState = false) →
    P { s with stopInput := active }
  /-- A node in reset, loading or just loaded. -/
  early : ∀ phase s, phase ≠ .running → P s → P { s with startup := { s.startup with phase := phase } }
  fresh : ∀ u, u.control = .reset → u.drive = .reset → P u
  clashed : ∀ u, u.control = { RunControl.reset with axisState := .fault } →
    u.drive = { DriveLink.reset with faultCause := some .addressClash, permanent := true } → P u

namespace KeptByRecords

variable {P : State → Prop}

/-! ### Faults -/

theorem reportFault (K : KeptByRecords P) (cause : FaultCause) (h : P s) : P (reportFault cause s) :=
  reportFault_cases (Q := P) cause h (fun _ => K.lost s h) (fun _ _ => K.congr h rfl) (K.faults cause s)

theorem reportDrive (K : KeptByRecords P) (cause : FaultCause) (h : P s) : P (reportDrive cause s) :=
  reportDrive_cases (Q := P) cause h (K.reportFault cause h)

theorem reportClash (K : KeptByRecords P) (h : P s) : P (reportClash s) := by
  unfold Machine.reportClash
  split
  · exact h
  · exact h
  · exact K.reportFault _ (K.congr h rfl)

theorem exchangeStage (K : KeptByRecords P) (c : Configuration) (pair : Option (Int × Int)) (h : P s) :
    P (exchangeStage c pair s) := by
  have closed : P (closeExchange c s) :=
    closeExchange_keeps (Q := P) (K.congr h rfl) fun cause _ => K.reportDrive cause
  exact K.congr closed (outline_sendRecord pair _)

theorem dropFrame (K : KeptByRecords P) (hand : InHand) (h : P s) : P (dropFrame hand s) :=
  K.reportFault _ (K.congr h rfl)

theorem dropEvent (K : KeptByRecords P) (h : P s) : P (dropEvent s) := by
  unfold Machine.dropEvent
  split
  · exact K.dropFrame _ (K.congr h rfl)
  · exact h

theorem takeEchoError (K : KeptByRecords P) (h : P s) : P (takeEchoError s) := by
  unfold Machine.takeEchoError
  split
  · split
    · dsimp only
      split
      · exact K.dropFrame _ (K.congr h rfl)
      · exact K.congr h rfl
    · exact h
  · exact h

/-! ### Arrivals (R13 to R20) -/

/-- The predicate in a state with a run: what holds all along an arrival. -/
def Along (P : State → Prop) (s : State) : Prop := P s ∧ hasRun s.control.axisState = true

theorem Along.same (K : KeptByRecords P) (h : Along P s) (same : outline t = outline s) : Along P t := by
  have state : t.control.axisState = s.control.axisState := congrArg Outline.axisState same
  exact ⟨K.congr h.1 same, by rw [state]; exact h.2⟩

/-- A run goes on to another state that has one. -/
theorem goes (K : KeptByRecords P) {new : AxisState} (h : Along P s) (moves : hasRun new = true)
    (other : new ≠ .holding) : P (enterState new s) :=
  K.moves new s s h.1 rfl h.2 moves rfl le_rfl fun holding => absurd holding other

theorem beginSegment (K : KeptByRecords P) (g : Segment) (h : Along P s) : P (beginSegment g s) := by
  have begun : Along P (onSegment (fun _ => g) s) := h.same K (outline_onSegment _ s)
  unfold Machine.beginSegment
  dsimp only
  split
  · exact K.goes begun rfl nofun
  · exact K.congr begun.1 (outline_queuePace _)

theorem waitAt (K : KeptByRecords P) (w : WaitPoint) (h : Along P s) : P (waitAt w s) :=
  K.goes (h.same K (outline_onSegment _ s)) rfl nofun

theorem stepEnd (K : KeptByRecords P) (m : Mark) (h : Along P s) : P (stepEnd m s) := by
  unfold Machine.stepEnd
  split
  · exact K.congr h.1 (outline_freezePath s)
  · split
    · exact K.waitAt _ h
    · split
      · exact K.goes (h.same K (outline_freezePath _)) rfl nofun
      · exact K.lives s _ h.1 rfl

theorem stepNext (K : KeptByRecords P) (m : Mark) (h : Along P s) : P (stepNext m s) := by
  unfold Machine.stepNext
  split
  · exact K.beginSegment _ h
  · exact K.stepEnd m h

theorem stepLoop (K : KeptByRecords P) (n : MarkNo) (m : Mark) (h : Along P s) : P (stepLoop n m s) := by
  unfold Machine.stepLoop
  split
  · rename_i r _ run
    dsimp only
    split
    · exact K.beginSegment _ (h.same K (outline_withRun run _))
    · exact K.stepNext m (h.same K (outline_withRun run _))
  · exact K.stepNext m h

theorem stepStop (K : KeptByRecords P) (n : MarkNo) (m : Mark) (h : Along P s) : P (stepStop n m s) := by
  unfold Machine.stepStop
  split
  · exact K.waitAt _ h
  · exact K.stepLoop n m h

theorem stepDwell (K : KeptByRecords P) (n : MarkNo) (m : Mark) (served : Bool) (h : Along P s) :
    P (stepDwell n m served s) := by
  unfold Machine.stepDwell
  split
  · exact K.stepStop n m h
  · have noted := h.same K (outline_onSegment (fun g => { g with dwellServed := true }) s)
    dsimp only
    split
    · exact K.beginSegment _ noted
    · exact K.stepStop n m noted

theorem handBack (K : KeptByRecords P) (h : Along P s) : P (handBack s) := by
  unfold Machine.handBack
  split
  · exact h.1
  · rename_i r run
    split
    · exact h.1
    · rename_i g _
      have back : Along P (queuePace (withRun { r with segment := g, heldAside := none } s)) :=
        h.same K ((outline_queuePace _).trans (outline_withRun run _))
      dsimp only
      split
      · exact back.1
      · split
        · exact back.1
        · split
          · exact K.stepLoop _ _ (back.same K (outline_onSegment _ _))
          · exact K.waitAt _ back
        · exact K.stepEnd _ back

theorem takeArrival (K : KeptByRecords P) (h : Along P s) : P (takeArrival s) := by
  unfold Machine.takeArrival
  split
  · exact h.1
  · dsimp only
    split
    · exact K.handBack h
    · exact K.stepDwell _ _ _ h

theorem continueRun (K : KeptByRecords P) (h : Along P s) : P (continueRun s) := by
  unfold Machine.continueRun
  split
  · exact h.1
  · exact K.stepLoop _ _ (h.same K ((outline_onSegment _ _).trans (outline_cueAnswer .noResult s)))

/-! ### Grabs, losses, halts and expiries -/

theorem takeGrab (K : KeptByRecords P) (h : P s) : P (takeGrab s) := by
  have released (moves : hasRun s.control.axisState = true) : P (enterState .releasing { s with
      control := { s.control with stack := [] }, blend := { s.blend with weightTarget := 0 },
      live := { s.live with remainder := 0 } }) :=
    K.moves _ s _ h rfl moves rfl rfl (Nat.zero_le _) nofun
  unfold Machine.takeGrab
  split
  · rename_i state; exact released (by rw [state]; rfl)
  · rename_i state; exact released (by rw [state]; rfl)
  · exact h

theorem grabExpiry (K : KeptByRecords P) (h : P s) : P (grabExpiry s) := by
  unfold Machine.grabExpiry
  split
  · exact K.takeGrab (K.congr h rfl)
  · exact h

/-- HOLDING is entered with its cause (R47, R52). -/
theorem holds (K : KeptByRecords P) (cause : HoldCause) (running : s.control.axisState = .running) (h : P s) :
    P (enterState .holding { s with control := { s.control with holdCause := some cause } }) :=
  K.moves _ s _ h rfl (by rw [running]; rfl) rfl rfl le_rfl fun _ => rfl

theorem takeCountedLoss (K : KeptByRecords P) (h : P s) : P (takeCountedLoss s) := by
  unfold Machine.takeCountedLoss
  split
  · exact K.holds _ ‹_› h
  · exact h

theorem losePeer (K : KeptByRecords P) (a : Addr) (h : P s) : P (losePeer a s) := by
  unfold Machine.losePeer
  split
  · dsimp only
    split
    · exact K.takeCountedLoss (K.congr h rfl)
    · exact K.congr h rfl
  · exact h

theorem takeHalt (K : KeptByRecords P) (code : Byte) (h : P s) : P (takeHalt code s) := by
  unfold Machine.takeHalt
  split
  · exact K.halts _ s
  · exact h

theorem armExpiry (K : KeptByRecords P) (h : P s) : P (armExpiry s) := by
  unfold Machine.armExpiry
  split
  · dsimp only
    split
    · exact K.lives s _ h rfl
    · rename_i other
      exact K.congr (K.disarmed s h other) rfl
  · exact h

/-! ### The drive, the stop input, the settle timer and CLEAR -/

theorem capture (K : KeptByRecords P) (c : Configuration) (x : Int) (waking : s.control.axisState = .waking)
    (h : P s) : P (capture c x s) := by
  unfold Machine.capture
  dsimp only
  split
  · exact K.congr (K.captured s h waking) rfl
  · simp only [Machine.reportFault, waking]
    exact K.faults _ _

theorem takeFeedback (K : KeptByRecords P) (r : FeedbackRecord) (h : P s) : P (takeFeedback r s) := by
  unfold Machine.takeFeedback
  split
  · split
    · dsimp only
      split
      · split
        · rename_i first
          exact K.capture _ _ (by simp_all) (K.congr h rfl)
        · exact K.congr h rfl
      · exact K.congr h rfl
    · exact h
  · exact h

theorem stopChange (K : KeptByRecords P) (active : Bool) (h : P s) : P (stopChange active s) := by
  unfold Machine.stopChange
  dsimp only
  split
  · rename_i same
    have same : active = s.stopInput := by simpa using same
    exact K.congr h (by rw [same])
  · split
    · split
      · exact K.halts _ _
      · rename_i idle
        exact K.pinned active s h fun _ _ => by simpa using idle
    · rename_i on
      have level : P { s with stopInput := active } := K.pinned active s h fun off => absurd off (by simpa using on)
      split
      · exact K.lives _ _ level rfl
      · exact level

theorem settleExpiry (K : KeptByRecords P) (h : P s) : P (settleExpiry s) := by
  unfold Machine.settleExpiry
  split
  · split
    · exact K.reportFault _ h
    · split
      · exact K.lives s _ h rfl
      · exact K.halts _ s
  · exact h

theorem takeClear (K : KeptByRecords P) (h : P s) : P (takeClear s).state := by
  have cleared (x : Int) : P (clearFault x s) := by
    have chosen (u : State) (stands : stance u = stance s) : P (if u.stopInput then enterLiveAt x u
        else haltNode .stopInput { u with blend.live := some x }) := by
      split
      · exact K.lives s _ h stands
      · exact K.halts _ _
    unfold clearFault
    dsimp only
    split <;> exact chosen _ rfl
  unfold Machine.takeClear
  split
  · split
    · exact cleared _
    · exact h
  · exact h

/-! ### The cues -/

theorem takeArm (K : KeptByRecords P) (cue : CueNo) (first : MarkNo) (h : P s) : P (takeArm cue first s) := by
  by_cases unnumbered : cue = 0
  · rwa [takeArm_unheard first (.inl unnumbered)]
  rcases steers : working s.control.axisState with _ | _
  · rcases not_working_iff.mp steers with state | state | state | state | state
    · rwa [takeArm_unheard first (.inr (.inl state))]
    · rwa [takeArm_unheard first (.inr (.inr (.inl state)))]
    · rwa [takeArm_unheard first (.inr (.inr (.inr state)))]
    · rw [takeArm_stopped first unnumbered (.inl state)]; exact K.congr h rfl
    · rw [takeArm_stopped first unnumbered (.inr state)]; exact K.congr h rfl
  · rw [takeArm_checked first unnumbered steers]
    split
    · exact K.congr h rfl
    · exact K.congr h rfl
    · dsimp only
      split
      · exact K.arms s (withArm _ s) h rfl rfl
      · exact K.congr (K.rearmed _ s h steers) rfl

theorem goRun (K : KeptByRecords P) (stack : List RunContext)
    (room : stack.length ≤ s.control.stack.length ∨ stack.length ≤ stackRoom) (h : P s) : P (goRun stack s) := by
  unfold Machine.goRun
  split
  · exact K.starts s _ h rfl rfl room
  · exact h

theorem goPending (K : KeptByRecords P) (nest : Bool) (h : P s) : P (goPending nest s) := by
  unfold Machine.goPending
  split
  · split
    · exact K.congr h rfl
    · rename_i room
      have one : (s.control.run.map pushedRun).toList.length ≤ 1 := by cases s.control.run <;> simp
      refine K.goRun _ (.inr ?_) h
      rw [List.length_append]
      omega
  · exact K.goRun _ (.inl le_rfl) h

theorem takeGo (K : KeptByRecords P) (cue : CueNo) (nest : Bool) (h : P s) : P (takeGo cue nest s) := by
  have fresh : P (Machine.goRun [] s) := K.goRun [] (.inl (Nat.zero_le _)) h
  have answered : P (if armedFor cue s.control then Machine.goRun [] s else cueAnswer .missed s) := by
    split
    · exact fresh
    · exact K.congr h rfl
  have pending (moves : hasRun s.control.axisState = true) : P (if armedFor cue s.control then Machine.goPending nest s
      else if waitsForGo cue s.control then Machine.continueRun s else cueAnswer .missed s) := by
    split
    · exact K.goPending nest h
    · split
      · exact K.continueRun ⟨h, moves⟩
      · exact K.congr h rfl
  unfold Machine.takeGo
  split
  · exact h
  · split
    iterate 3 exact h
    iterate 2 exact K.congr h rfl
    · exact answered
    · split
      · exact fresh
      · exact K.lives s _ h rfl
    · exact answered
    all_goals rename_i state; exact pending (by rw [state]; rfl)

theorem takeHold (K : KeptByRecords P) (cue : CueNo) (h : P s) : P (takeHold cue s) := by
  unfold Machine.takeHold
  split
  iterate 3 exact h
  iterate 4 exact K.congr h rfl
  iterate 3 exact h
  split
  · exact K.holds _ ‹_› h
  · exact h

theorem takeResume (K : KeptByRecords P) (cue : CueNo) (h : P s) : P (takeResume cue s) := by
  unfold Machine.takeResume
  split
  · rename_i state
    split
    · exact K.goes ⟨h, by rw [state]; rfl⟩ rfl nofun
    · exact h
  · exact h

theorem takeAbort (K : KeptByRecords P) (cue : CueNo) (h : P s) : P (takeAbort cue s) := by
  have dropped (other : s.control.axisState ≠ .armed) (b : Bool) :
      P (if b then { s with control := { s.control with arm := none } } else s) := by
    split
    · exact K.disarmed s h other
    · exact h
  have run (other : s.control.axisState ≠ .armed) : P (if cueMatches cue (s.control.run.map (·.cue))
      then haltNode .abort s
      else if cueMatches cue (s.control.arm.map (·.cue)) then { s with control := { s.control with arm := none } }
      else s) := by
    split
    · exact K.halts _ s
    · exact dropped other _
  unfold Machine.takeAbort
  dsimp only
  split
  iterate 4 (rename_i state; exact run (by rw [state]; nofun))
  · split
    · exact K.lives s _ h rfl
    · exact h
  · rename_i state; exact dropped (by rw [state]; nofun) _
  · exact h

theorem takeReturn (K : KeptByRecords P) (cue : CueNo) (duration : Nat) (h : P s) : P (takeReturn cue duration s) := by
  have back : P (if cueMatches cue (ownCue s.control) then
      match s.control.stack with
      | [] => cueAnswer .noReturn s
      | top :: rest => popRun duration top rest s
    else s) := by
    split
    · split
      · exact K.congr h rfl
      · rename_i stack
        exact K.starts s _ h rfl rfl (.inl (stack ▸ Nat.le_succ _))
    · exact h
  unfold Machine.takeReturn
  split
  iterate 3 exact h
  iterate 4 exact K.congr h rfl
  · split
    · exact K.congr h rfl
    · exact h
  all_goals exact back

theorem handled (K : KeptByRecords P) {f : State → State} (e : Handling f) (h : P s) : P (f s) := by
  cases e with
  | recordOnly => exact h
  | halt code => exact K.takeHalt code h
  | arm cue first => exact K.takeArm cue first h
  | go cue nest => exact K.takeGo cue nest h
  | hold cue => exact K.takeHold cue h
  | resume cue => exact K.takeResume cue h
  | abort cue => exact K.takeAbort cue h
  | returnCue cue duration => exact K.takeReturn cue duration h
  | demand a p => exact K.congr h (outline_takeDemandFrame a p s)
  | pace a p => exact K.congr h (outline_leaveCounted a p s)
  | poll target => exact K.congr h (outline_takePoll target s)

/-! ### The update -/

theorem pathStage (K : KeptByRecords P) (c : Configuration) (h : P s) : P (pathStage c s).1 := by
  unfold Machine.pathStage
  split
  · exact h
  · rename_i r run
    have advanced (moves : hasRun s.control.axisState = true) : P (advancePath c r s).1 := by
      have moved (q : RunContext) : Along P (withRun q s) := Along.same K ⟨h, moves⟩ (outline_withRun run q)
      unfold advancePath
      dsimp only
      split
      · exact K.takeArrival (moved _)
      · exact (moved _).1
    split
    · rename_i state; exact advanced (by rw [state]; rfl)
    · rename_i state; exact advanced (by rw [state]; rfl)
    · exact h
    · rename_i state
      split
      · exact h
      · exact advanced (by rw [state]; rfl)
    · exact h

theorem takeReports (K : KeptByRecords P) (m : MixResult) (h : P s) : P (takeReports m s) := by
  unfold Machine.takeReports
  split
  · split
    · exact K.lives s _ h rfl
    · exact h
  · split
    · exact K.lives s _ h rfl
    · exact h
  · exact h

theorem update (K : KeptByRecords P) (h : P s) : P (update s) := by
  unfold Machine.update
  split
  · rename_i c _ _ _
    have path := K.pathStage c (K.congr (t := paceWork c { s with blend.timer := some 0 }) h rfl)
    have lived := K.congr (K.congr path (outline_paceCheck _)) (outline_liveStage c _)
    exact K.takeReports _ (K.exchangeStage c _ (K.congr lived (outline_mixStage c _ _ _)))
  · exact h

theorem event (K : KeptByRecords P) {f : State → State} (e : Event f) (h : P s) : P (f s) := by
  cases e with
  | update => exact K.update h
  | paceInterval => exact K.congr h (outline_paceInterval s)
  | driveLost => exact K.reportDrive _ (K.congr h rfl)
  | following => exact K.reportDrive _ (K.congr h rfl)
  | feedback r => exact K.takeFeedback r h
  | stopChange active => exact K.stopChange active h
  | settle => exact K.settleExpiry h
  | armExpiry => exact K.armExpiry h
  | staleDemand => exact K.congr h (outline_staleDemand s)
  | staleDial => exact K.congr h rfl
  | releaseChannel ch => exact K.congr h (outline_releaseChannel ch s)
  | grab => exact K.grabExpiry h
  | losePeer a => exact K.losePeer a h
  | lease => exact K.congr h rfl
  | slotWrite => exact K.congr h (outline_slotWriteEnd s)
  | configWrite =>
    unfold configWriteEnd
    split
    · exact h
    · exact K.wakes _
  | stateInterval => exact K.congr h (outline_stateInterval s)
  | sendStart => exact K.congr h (outline_startFrame s)
  | lostContention => exact K.congr h (outline_loseContention s)
  | echoError => exact K.takeEchoError h
  | drop => exact K.dropEvent h
  | sentIntact => exact K.congr h (outline_frameSent s)
  | clash => exact K.reportClash h

/-! ### COMMANDs, loading, and every step -/

theorem answered (K : KeptByRecords P) {k : CommandClass} {act : State → Answer} (o : Owner k act) (h : P s) :
    P (act s).state := by
  have edited {act : State → Answer} (o : Owner .edit act) : P (act s).state := by
    obtain ⟨marks, slots, same⟩ := (o.markWork s).frame
    exact K.congr h (by rw [same]; rfl)
  have configured {act : State → Answer} (o : Owner .config act) : P (act s).state := by
    obtain ⟨staged, write, same⟩ := o.config_frame s
    exact K.congr h (by rw [same]; rfl)
  cases o with
  | markOpen head args => exact edited (.markOpen head args)
  | markSet head args => exact edited (.markSet head args)
  | markClose head args => exact edited (.markClose head args)
  | markErase args => exact edited (.markErase args)
  | save => exact edited .save
  | markRead args => rwa [takeMarkRead_state]
  | peerRead args => rwa [takePeerRead_state]
  | park =>
    unfold takePark
    split
    · exact K.parks s
    · exact h
  | wake => exact K.wakes s
  | clear => exact K.takeClear h
  | configSet args => exact configured (.configSet args)
  | configDone => exact configured .configDone
  | unknown => exact h

/-- A loaded node is in its reset values, but for the first state that R23 chooses. -/
theorem loadingEnd (K : KeptByRecords P) (h : P s) : P (loadingEnd s) := by
  unfold Machine.loadingEnd
  split
  · by_cases address : (loadStore s).startup.address = 0
    · rw [firstState_clash address]
      exact K.clashed _ rfl rfl
    by_cases setup : (loadStore s).startup.setupStrap = true ∨ (loadStore s).startup.config = none
    · rw [firstState_setup address setup]
      exact K.congr (K.fresh _ rfl rfl) (outline_queueState _)
    · obtain ⟨strap, configured⟩ := not_or.mp setup
      obtain ⟨c, config⟩ := Option.ne_none_iff_exists'.mp configured
      rw [firstState_waking address config (Bool.eq_false_iff.mpr strap)]
      exact K.wakes _
  · exact h

/-- What the changes keep, every operation of the node keeps. -/
theorem keptByNode (K : KeptByRecords P) : KeptByNode P where
  queue _ _ h := K.congr h rfl
  reset s _ := K.fresh (resetNode s) rfl rfl
  release address strap s h := by
    unfold releaseReset
    split
    · exact K.congr (K.early (.loading 0) s nofun h) rfl
    · exact h
  loading _ m s _ h := K.early (.loading m) s nofun h
  loaded _ h := K.loadingEnd h
  pin active s early h := K.pinned active s h fun _ running => absurd running early
  aged s _ h := K.congr h (outline_ageAll s)
  event _ e _ _ h := K.event e h
  heard a record s _ _ h := K.congr h (outline_hear a record s)
  handled _ e _ _ h := K.handled e h
  refused _ _ _ _ h := K.congr h rfl
  answered _ _ o _ _ _ _ _ h := K.congr (K.answered o h) rfl

end KeptByRecords

end Sys2Proof.Machine
end

section
/-! ## The records fit the axis state (R21, R22, R50, R131)

The records a state does not hold are dropped on the way into it, so a change keeps the law wherever the records that the
new state asks for are there. -/

namespace Sys2Proof.Machine

variable {s t : State}

/-- The law speaks of the outline alone. -/
theorem RecordsFit.congr (h : RecordsFit s) (same : outline t = outline s) : RecordsFit t := by
  have state : t.control.axisState = s.control.axisState := congrArg Outline.axisState same
  have run : t.control.run.isSome = s.control.run.isSome := congrArg Outline.run same
  have arm : t.control.arm.isSome = s.control.arm.isSome := congrArg Outline.arm same
  have stacked : t.control.stack.length = s.control.stack.length := congrArg Outline.stacked same
  have halted : t.control.haltCause.isSome = s.control.haltCause.isSome := congrArg Outline.halted same
  have held : t.control.holdCause.isSome = s.control.holdCause.isSome := congrArg Outline.held same
  have settling : t.control.settle.isSome = s.control.settle.isSome := congrArg Outline.settling same
  have fault : t.drive.faultCause = s.drive.faultCause := congrArg Outline.faultCause same
  have empty (h : s.control.stack = []) : t.control.stack = [] :=
    List.length_eq_zero_iff.mp (stacked.trans (List.length_eq_zero_iff.mpr h))
  exact {
    run_present := by rw [run, state]; exact h.run_present
    arm_allowed := by rw [arm, state]; exact h.arm_allowed
    armed_cue := by rw [arm, state]; exact h.armed_cue
    stack_allowed := fun stack => by rw [state]; exact h.stack_allowed fun none => stack (empty none)
    stack_room := by rw [stacked]; exact h.stack_room
    halt_cause := by rw [halted, state]; exact h.halt_cause
    hold_cause := by rw [held, state]; exact h.hold_cause
    settle_timer := by rw [settling, state]; exact h.settle_timer
    fault_cause := by rw [fault, state]; exact h.fault_cause }

/-- The records that an axis state asks for are there (R21, R22, R131). -/
structure ReadyFor (new : AxisState) (s : State) : Prop where
  run : hasRun new = true → s.control.run.isSome = true
  arm : new = .armed → s.control.arm.isSome = true
  room : keepsStack new = true → s.control.stack.length ≤ stackRoom
  halt : new = .halted → s.control.haltCause.isSome = true
  hold : new = .holding → s.control.holdCause.isSome = true
  settle : new = .waking → s.control.settle.isSome = true
  fault : new = .fault → s.drive.faultCause.isSome = true

/-- LIVE and PARKED ask for no record. -/
theorem readyFor_bare {new : AxisState} (bare : new = .live ∨ new = .parked) : ReadyFor new s := by
  rcases bare with rfl | rfl <;> exact ⟨nofun, nofun, nofun, nofun, nofun, nofun, nofun⟩

theorem isSome_ite_none {α : Type} {p : Prop} [Decidable p] {x : Option α} (given : p → x.isSome = true) :
    (if p then x else none).isSome = decide p := by
  split
  case isTrue holds => rw [given holds, decide_eq_true holds]
  case isFalse fails => rw [decide_eq_false fails]; rfl

/-- A change of axis state that finds the new state's records leaves them, and no others (R7, R21, R22, R50, R131). -/
theorem recordsFit_changeState {new : AxisState} (h : ReadyFor new s) : RecordsFit (changeState new s) where
  run_present := by
    rw [changeState_control, keepRecords_run, keepRecords_axisState, isSome_ite_none h.run, Bool.decide_eq_true]
  arm_allowed := by
    rw [changeState_control, keepRecords_arm, keepRecords_axisState]
    split
    · exact fun _ => ‹_›
    · nofun
  armed_cue := by
    rw [changeState_control, keepRecords_arm, keepRecords_axisState]
    rintro rfl
    exact h.arm rfl
  stack_allowed := by
    rw [changeState_control, keepRecords_stack, keepRecords_axisState]
    split
    · exact fun _ => ‹_›
    · exact absurd rfl
  stack_room := by
    rw [changeState_control, keepRecords_stack]
    split
    · exact h.room ‹_›
    · exact Nat.zero_le _
  halt_cause := by
    rw [changeState_control, keepRecords_haltCause, keepRecords_axisState, isSome_ite_none h.halt, beq_eq_decide]
  hold_cause := by
    rw [changeState_control, keepRecords_holdCause, keepRecords_axisState, isSome_ite_none h.hold, beq_eq_decide]
  settle_timer := by
    rw [changeState_control, keepRecords_settle, keepRecords_axisState, isSome_ite_none h.settle, beq_eq_decide]
  fault_cause := by
    rw [changeState_control, changeState_faultCause, keepRecords_axisState, isSome_ite_none h.fault, beq_eq_decide]

theorem recordsFit_haltNode (cause : Cause) (u : State) : RecordsFit (haltNode cause u) :=
  recordsFit_changeState ⟨nofun, nofun, nofun, fun _ => rfl, nofun, nofun, nofun⟩

theorem recordsFit_readStop (old : AxisState) (h : RecordsFit s) : RecordsFit (readStop old s) := by
  rcases readStop_cases old s with same | ⟨-, -, -, halted⟩
  · rwa [same]
  · rw [halted]; exact recordsFit_haltNode _ s

theorem recordsFit_enterState {new : AxisState} (h : ReadyFor new s) : RecordsFit (enterState new s) :=
  recordsFit_readStop _ (recordsFit_changeState h)

/-- A run that starts, or an armed cue, is told and the stop input read (R39, R43, R139). -/
theorem recordsFit_launched {new : AxisState} (old : AxisState) (h : ReadyFor new s) :
    RecordsFit (readStop old (queuePace (changeState new s))) :=
  recordsFit_readStop old ((recordsFit_changeState h).congr (outline_queuePace _))

theorem outline_queueHalt (cause : FaultCause) (s : State) : outline (queueHalt cause s) = outline s := by
  simp [outline]

/-- Every change of axis state finds the records it asks for. -/
theorem recordsFit_keptByRecords : KeptByRecords RecordsFit where
  congr := RecordsFit.congr
  halts := recordsFit_haltNode
  faults cause u := by
    have entered (v : State) (fault : v.drive.faultCause.isSome = true) : RecordsFit (changeState .fault v) :=
      recordsFit_changeState ⟨nofun, nofun, nofun, nofun, nofun, nofun, fun _ => fault⟩
    exact RecordsFit.congr (entered _ rfl) (outline_queueHalt cause _)
  lost s h fault := { h with fault_cause := by rw [fault]; rfl }
  captured _ h _ := { h with }
  wakes u := recordsFit_enterState ⟨nofun, nofun, nofun, nofun, nofun, fun _ => rfl, nofun⟩
  parks u := recordsFit_enterState (readyFor_bare (.inr rfl))
  lives _ u _ _ := recordsFit_enterState (readyFor_bare (.inl rfl))
  moves new s u h _ ran moves run stacked held := by
    refine recordsFit_enterState ⟨fun _ => by rw [run, h.run_present, ran], ?_, fun _ => stacked.trans h.stack_room, ?_,
      held, ?_, ?_⟩ <;> rintro rfl <;> exact absurd moves nofun
  starts s u h _ run room := recordsFit_launched _
    ⟨fun _ => run, nofun, fun _ => room.elim (·.trans h.stack_room) id, nofun, nofun, nofun, nofun⟩
  arms s u _ _ arm := recordsFit_launched _ ⟨nofun, fun _ => arm, nofun, nofun, nofun, nofun, nofun⟩
  rearmed _ _ h steers := { h with arm_allowed := fun _ => steers, armed_cue := fun _ => rfl }
  disarmed _ h other := { h with arm_allowed := nofun, armed_cue := fun armed => absurd armed other }
  pinned _ _ h _ := { h with }
  early _ _ _ h := { h with }
  fresh u control drive := by
    have reset : RecordsFit { u with control := .reset, drive := .reset } := { recordsFit_reset with }
    rw [← control, ← drive] at reset
    exact reset
  clashed u control drive :=
    ⟨by rw [control]; rfl, by rw [control]; nofun, by rw [control]; nofun, by rw [control]; exact absurd rfl,
      by rw [control]; exact Nat.zero_le _, by rw [control]; rfl, by rw [control]; rfl, by rw [control]; rfl,
      by rw [control, drive]; rfl⟩

/-- Settles O54: what every operation of the node keeps, its steps keep. -/
theorem stepKeepsRecordsFit : Obligations.StepKeepsRecordsFit :=
  fun _ _ h step => recordsFit_keptByRecords.keptByNode.step h step

end Sys2Proof.Machine
end

section
/-! ## The stop input and the enable output (R32, R132, R135, R139)

A change into a state that steers the axis reads the stop input, and the states that the enable output is off in are
entered with it off. -/

namespace Sys2Proof.Machine

variable {s t : State}

/-- Both laws at once. -/
abbrev StopAndEnable (s : State) : Prop := StopRespected s ∧ EnableLawful s

/-- Both speak of the outline alone. -/
theorem StopAndEnable.congr (h : StopAndEnable s) (same : outline t = outline s) : StopAndEnable t := by
  have phase : t.startup.phase = s.startup.phase := congrArg Outline.phase same
  have stop : t.stopInput = s.stopInput := congrArg Outline.stopInput same
  have state : t.control.axisState = s.control.axisState := congrArg Outline.axisState same
  have fault : t.drive.faultCause = s.drive.faultCause := congrArg Outline.faultCause same
  have captured : t.drive.captured = s.drive.captured := congrArg Outline.captured same
  have enable : t.drive.enable = s.drive.enable := congrArg Outline.enable same
  obtain ⟨respected, lawful⟩ := h
  refine ⟨?_, ?_, ?_, ?_, ?_, ?_⟩
  · rw [StopRespected, phase, state, stop]; exact respected
  · rw [state, enable]; exact lawful.setup
  · rw [state, enable]; exact lawful.parked
  · rw [state, captured, enable]; exact lawful.waking
  · rw [state, fault, enable]; exact lawful.lost
  · rw [state, fault, enable]; exact lawful.misplaced

/-- The enable output is the node's own in a state that steers the axis, and in HALTED (R135). -/
theorem enableLawful_of_held (held : working s.control.axisState = true ∨ s.control.axisState = .halted) :
    EnableLawful s := by
  have other {st : AxisState} (idle : working st = false) (unhalted : st ≠ .halted) : s.control.axisState ≠ st := by
    rintro rfl
    exact held.elim (fun steers => nomatch idle.symm.trans steers) unhalted
  exact ⟨(absurd · (other rfl nofun)), (absurd · (other rfl nofun)), (absurd · (other rfl nofun)),
    (absurd · (other rfl nofun)), (absurd · (other rfl nofun))⟩

/-- With the enable output off, in a state that does not steer the axis, both laws hold. -/
theorem stopAndEnable_of_off (idle : working s.control.axisState = false) (off : s.drive.enable = false) :
    StopAndEnable s :=
  ⟨fun _ steers => (nomatch idle.symm.trans steers), fun _ => off, fun _ => off, fun _ _ => off, fun _ _ => off,
    fun _ _ => off⟩

theorem stopAndEnable_haltNode (cause : Cause) (u : State) : StopAndEnable (haltNode cause u) := by
  have halted : (haltNode cause u).control.axisState = .halted := by rw [haltNode_control]; rfl
  exact ⟨fun _ steers => by rw [halted] at steers; exact (nomatch steers), enableLawful_of_held (.inr halted)⟩

/-- A node that has come from a lawful one to a state that steers the axis is lawful once the stop input is read: it was
in that state before, or the reading finds it there (R32, R139). -/
theorem stopAndEnable_readStop {u : State} (h : StopAndEnable s) (phase : u.startup.phase = s.startup.phase)
    (stop : u.stopInput = s.stopInput) (steers : working u.control.axisState = true) :
    StopAndEnable (readStop s.control.axisState u) := by
  by_cases active : u.stopInput = true
  · rw [readStop_active _ _ active]
    exact ⟨fun _ _ => active, enableLawful_of_held (.inl steers)⟩
  by_cases same : u.control.axisState = s.control.axisState
  · rcases readStop_cases s.control.axisState u with stands | ⟨-, -, -, halted⟩
    · rw [stands]
      exact ⟨fun running _ => stop.trans (h.1 (phase ▸ running) (same ▸ steers)), enableLawful_of_held (.inl steers)⟩
    · rw [halted]; exact stopAndEnable_haltNode _ u
  · have halted : readStop s.control.axisState u = haltNode .stopInput u := by simp [readStop, steers, same, active]
    rw [halted]
    exact stopAndEnable_haltNode _ u

/-- So is a node that enters such a state (R32, R139). -/
theorem stopAndEnable_enterState {new : AxisState} {u : State} (steers : working new = true) (h : StopAndEnable s)
    (stands : stance u = stance s) : StopAndEnable (enterState new u) := by
  have phase : u.startup.phase = s.startup.phase := congrArg (·.1) stands
  have stop : u.stopInput = s.stopInput := congrArg (·.2.1) stands
  have state : u.control.axisState = s.control.axisState := congrArg (·.2.2) stands
  rw [enterState, state]
  exact stopAndEnable_readStop h (by simpa using phase) (by simpa using stop) (by simpa using steers)

theorem stopAndEnable_launched {new : AxisState} {u : State} (steers : working new = true) (h : StopAndEnable s)
    (stands : stance u = stance s) :
    StopAndEnable (readStop s.control.axisState (queuePace (changeState new u))) := by
  have phase : u.startup.phase = s.startup.phase := congrArg (·.1) stands
  have stop : u.stopInput = s.stopInput := congrArg (·.2.1) stands
  exact stopAndEnable_readStop h (by simpa using phase) (by simpa using stop) (by simpa using steers)

/-- FAULT is entered with the enable output off for a lost or misplaced drive (R135, R140). -/
theorem stopAndEnable_enterFault (cause : FaultCause) (u : State) : StopAndEnable (enterFault cause u) := by
  have fault : (enterFault cause u).control.axisState = .fault := by simp [enterFault]
  have drive := enterFault_drive cause u
  have off (named : FaultCause) (recorded : (enterFault cause u).drive.faultCause = some named)
      (cuts : enableOffCause named = true) : (enterFault cause u).drive.enable = false := by
    rw [drive] at recorded ⊢
    obtain rfl := Option.some.inj recorded
    simp [cuts]
  refine ⟨fun _ steers => ?_, ?_, ?_, ?_, fun _ recorded => off _ recorded rfl, fun _ recorded => off _ recorded rfl⟩
  · rw [fault] at steers; exact nomatch steers
  all_goals rw [fault]; nofun

/-- Every change keeps both laws. -/
theorem stopAndEnable_keptByRecords : KeptByRecords StopAndEnable where
  congr := StopAndEnable.congr
  halts := stopAndEnable_haltNode
  faults := stopAndEnable_enterFault
  lost s _ fault := stopAndEnable_of_off (by rw [fault]; rfl) rfl
  captured s _ waking := by
    refine ⟨fun _ steers => ?_, ?_, ?_, nofun, ?_, ?_⟩
    · rw [waking] at steers; exact nomatch steers
    all_goals rw [waking]; nofun
  wakes u := stopAndEnable_of_off (by rw [enterWaking_eq, changeState_control]; rfl)
    (by rw [enterWaking_eq, changeState_drive_enable])
  parks u := stopAndEnable_of_off (by rw [parkNode, enterState_not_working rfl, changeState_control]; rfl)
    (by rw [parkNode, enterState_drive_enable])
  lives _ _ h stands := stopAndEnable_enterState rfl h stands
  moves _ _ _ h stands _ moves _ _ _ := stopAndEnable_enterState (working_of_hasRun moves) h stands
  starts _ _ h stands _ _ := stopAndEnable_launched rfl h stands
  arms _ _ h stands _ := stopAndEnable_launched rfl h stands
  rearmed _ _ h _ := ⟨h.1, { h.2 with }⟩
  disarmed _ h _ := ⟨h.1, { h.2 with }⟩
  pinned active s h idle := by
    refine ⟨fun running steers => ?_, { h.2 with }⟩
    by_contra off
    exact nomatch (idle (Bool.eq_false_iff.mpr off) running).symm.trans steers
  early _ _ early h := ⟨fun running => absurd running early, { h.2 with }⟩
  fresh u control drive := stopAndEnable_of_off (by rw [control]; rfl) (by rw [drive]; rfl)
  clashed u control drive := stopAndEnable_of_off (by rw [control]; rfl) (by rw [drive]; rfl)

/-- Settles O55: what every operation of the node keeps, its steps keep. -/
theorem stepKeepsStopAndEnable : Obligations.StepKeepsStopAndEnable :=
  fun _ _ h step => stopAndEnable_keptByRecords.keptByNode.step h step

end Sys2Proof.Machine
end

section
/-! ## HOLD, RESUME, HALT and ABORT (R32, R38, R47, R48) -/

namespace Sys2Proof.Machine

variable {cue : CueNo} {s : State}

/-- Into a state with a run from a state that sends PACE frames, with the stop input active: told by both frames (R89,
R174). -/
theorem enterState_among {new : AxisState} (open_ : s.drive.permanent = false) (active : s.stopInput = true)
    (sends : sendsPace s.control.axisState = true) (moves : hasRun new = true) (changes : s.control.axisState ≠ new) :
    ChangedAmongRuns s (enterState new s) ∧ (enterState new s).control = keepRecords new s.control ∧
      Announced (enterState new s) := by
  obtain ⟨changed, told, control⟩ := changeState_among open_ sends moves changes
  rw [enterState_active _ _ active]
  exact ⟨changed, control, told⟩

/-- Into HOLDING with a cause, from RUNNING (R47, R52). -/
theorem enterHolding_among (cause : HoldCause) (open_ : s.drive.permanent = false) (active : s.stopInput = true)
    (running : s.control.axisState = .running) :
    let t := enterState .holding { s with control := { s.control with holdCause := some cause } }
    ChangedAmongRuns s t ∧ t.control = inRun .holding (some cause) s.control ∧ Announced t :=
  enterState_among (s := { s with control := { s.control with holdCause := some cause } }) open_ active
    (by rw [running]; rfl) rfl (by rw [running]; nofun)

/-! ### HOLD and RESUME -/

theorem takeHold_running {r : RunContext} (running : s.control.axisState = .running) (run : s.control.run = some r) :
    takeHold cue s = if Matches cue r.cue then
        enterState .holding { s with control := { s.control with holdCause := some .operator } }
      else s := by
  rw [takeHold, running, ownCue_of_run (by rw [running]; rfl) run]
  exact if_congr cueMatches_iff rfl rfl

theorem takeHold_other_run (moves : hasRun s.control.axisState = true) (other : s.control.axisState ≠ .running) :
    takeHold cue s = s := by
  rcases hasRun_iff.mp moves with state | state | state | state
  · exact absurd state other
  all_goals rw [takeHold, state]

theorem takeHold_without_run (h : s.control.axisState = .live ∨ s.control.axisState = .armed ∨
    s.control.axisState = .halted ∨ s.control.axisState = .fault) : takeHold cue s = cueAnswer .badState s := by
  rcases h with h | h | h | h <;> rw [takeHold, h]

theorem takeHold_unheard (h : s.control.axisState = .setup ∨ s.control.axisState = .waking ∨
    s.control.axisState = .parked) : takeHold cue s = s := by
  rcases h with h | h | h <;> rw [takeHold, h]

theorem takeResume_holding {r : RunContext} (holding : s.control.axisState = .holding) (run : s.control.run = some r) :
    takeResume cue s = if Matches cue r.cue then enterState .running s else s := by
  rw [takeResume, holding, ownCue_of_run (by rw [holding]; rfl) run]
  exact if_congr cueMatches_iff rfl rfl

theorem takeResume_elsewhere (other : s.control.axisState ≠ .holding) : takeResume cue s = s := by
  unfold takeResume
  split
  · exact absurd ‹_› other
  · rfl

/-- Settles O38, by what each verb does in each state, on the node that has heard the sender. -/
theorem holdAndResume : Obligations.HoldAndResume := by
  intro sender cue s accepted stop open_
  have holds : exec (.hold sender cue) s = .next (takeHold cue (heardFrom sender s)) :=
    congrArg _ (cueFrame_accepts accepted _)
  have resumes : exec (.resume sender cue) s = .next (takeResume cue (heardFrom sender s)) :=
    congrArg _ (cueFrame_accepts accepted _)
  rw [holds, resumes, heardFrom_eq]
  generalize (heardFrom sender s).peers = peers
  intro s' st
  have active (moves : hasRun st = true) : s.stopInput = true := stop accepted.1 (working_of_hasRun moves)
  refine ⟨fun r moves run => ⟨_, rfl, ?_⟩, fun h => congrArg _ (takeHold_without_run (s := s') h),
    fun h => congrArg _ (takeHold_unheard (s := s') h), fun r holding run => ⟨_, rfl, ?_⟩,
    fun other => congrArg _ (takeResume_elsewhere (s := s') other)⟩
  · by_cases running : st = .running
    · rw [takeHold_running (s := s') running run]
      by_cases matching : Matches cue r.cue
      · rw [if_pos matching, if_pos ⟨running, matching⟩]
        exact enterHolding_among .operator (s := s') open_ (active moves) running
      · rw [if_neg matching, if_neg fun h => matching h.2]
    · rw [takeHold_other_run (s := s') moves running, if_neg fun h => running h.1]
  · rw [takeResume_holding (s := s') holding run]
    by_cases matching : Matches cue r.cue
    · rw [if_pos matching, if_pos matching]
      exact enterState_among (s := s') open_ (active (by rw [holding]; rfl))
        (show sendsPace st = true by rw [holding]; rfl) rfl (show st ≠ .running by rw [holding]; nofun)
    · rw [if_neg matching, if_neg matching]

/-! ### HALT and ABORT -/

/-- A frame's number against the number of a record that may not be there (R38). -/
theorem cueMatches_map_iff {α : Type} {number : α → CueNo} {x : Option α} :
    cueMatches cue (x.map number) = true ↔ ∃ r, x = some r ∧ Matches cue (number r) := by
  rcases x with _ | r
  · exact ⟨nofun, fun ⟨_, absent, _⟩ => nomatch absent⟩
  · exact cueMatches_iff.trans ⟨fun matching => ⟨r, rfl, matching⟩, fun ⟨_, same, matching⟩ => by
      obtain rfl := Option.some.inj same; exact matching⟩

/-- ABORT halts a run it matches, else drops an arm record it matches, else does nothing (R48). -/
theorem takeAbort_eq (cue : CueNo) (s : State) : takeAbort cue s =
    if hasRun s.control.axisState = true ∧ ∃ r, s.control.run = some r ∧ Matches cue r.cue then haltNode .abort s
    else if working s.control.axisState = true ∧ ∃ a, s.control.arm = some a ∧ Matches cue a.cue then
      if s.control.axisState = .armed then enterState .live { s with control := { s.control with arm := none } }
      else { s with control := { s.control with arm := none } }
    else s := by
  have run := cueMatches_map_iff (cue := cue) (number := RunContext.cue) (x := s.control.run)
  have arm := cueMatches_map_iff (cue := cue) (number := ArmRecord.cue) (x := s.control.arm)
  unfold takeAbort
  dsimp only
  simp only [← run, ← arm]
  cases s.control.axisState <;> simp [hasRun, working]

/-- Settles O34: halting is `haltNode`, and an abort what `takeAbort_eq` says, on the node that has heard the sender. -/
theorem haltAndAbort : Obligations.HaltAndAbort := by
  intro sender code cue s accepted open_ stop
  have halts : exec (.haltFrame sender code) s = .next (takeHalt code (heardFrom sender s)) :=
    congrArg _ (receive_accepts accepted _ _)
  have aborts : exec (.abort sender cue) s = .next (takeAbort cue (heardFrom sender s)) :=
    congrArg _ (cueFrame_accepts accepted _)
  rw [halts, aborts, heardFrom_eq]
  generalize (heardFrom sender s).peers = peers
  intro s' st cause disarmed
  have unhalted (steers : working st = true) : s'.control.axisState ≠ .halted := by
    intro halted
    rw [show st = .halted from halted] at steers
    exact nomatch steers
  refine ⟨?_, _, rfl, ?_⟩
  · by_cases steers : working st = true
    · rw [if_pos steers]
      exact ⟨_, congrArg _ (if_pos steers), haltNode_halts cause (s := s') open_ (unhalted steers)⟩
    · rw [if_neg steers]
      exact congrArg _ (if_neg steers)
  · rw [takeAbort_eq]
    by_cases halting : hasRun st = true ∧ ∃ r, s.control.run = some r ∧ Matches cue r.cue
    · rw [if_pos halting, if_pos halting]
      exact haltNode_halts .abort (s := s') open_ (unhalted (working_of_hasRun halting.1))
    rw [if_neg halting, if_neg halting]
    by_cases disarming : working st = true ∧ ∃ a, s.control.arm = some a ∧ Matches cue a.cue
    · rw [if_pos disarming, if_pos disarming]
      by_cases armed : st = .armed
      · rw [if_pos armed, if_pos armed]
        exact enterLive_live (s := disarmed) open_ (stop accepted.1 disarming.1) (show st ≠ .live by rw [armed]; nofun)
      · rw [if_neg armed, if_neg armed]
    · rw [if_neg disarming, if_neg disarming]

end Sys2Proof.Machine
end

section
/-! ## GO: the run of the arm record (R42 to R45, R65, R68) -/

namespace Sys2Proof.Machine

variable {s : State} {a : ArmRecord} {m : Mark} {setpoint : Int} {stack : List RunContext}

/-- The node with the run a GO starts, before it is in RUNNING (R43, R86, R92, R106, R114, R116). -/
def withStarted (a : ArmRecord) (m : Mark) (setpoint : Int) (stack : List RunContext) (s : State) : State :=
  { s with
    control := { s.control with
      run := some (freshRun a setpoint m), arm := none, stack, cueResult := .noResult },
    pace := { s.pace with applied := 0, counted := if ownCue s.control = some a.cue then s.pace.counted else [] },
    live := { s.live with remainder := 0 },
    blend := { s.blend with
      trim := 0, live := some setpoint, weightTarget := if a.authority = .follow then 4096 else a.share } }

/-- With the stop input active the run an arm record starts is in RUNNING, told by a PACE frame (R43, R89). -/
theorem startRun_eq {h : History} (active : s.stopInput = true) (record : s.marks.table[a.first].record = some m)
    (history : s.blend.history = some h) (stack : List RunContext) :
    startRun a stack s = queuePace (changeState .running (withStarted a m h.prev stack s)) := by
  have target : targetOf a.authority a.share = if a.authority = .follow then 4096 else a.share := by
    rcases a.authority <;> rfl
  have stands : (queuePace (changeState .running (withStarted a m h.prev stack s))).stopInput = true := by
    rw [queuePace_stopInput, changeState_stopInput]; exact active
  rw [startRun, presentSetpoint, history, markAt_eq record, target]
  exact readStop_active _ _ stands

/-- What a GO that starts a run comes to, among the states with a run (R43, R89, R174). -/
theorem started_changes (a : ArmRecord) (m : Mark) (setpoint : Int) (stack : List RunContext)
    (open_ : s.drive.permanent = false) :
    let x := withStarted a m setpoint stack s
    let t := queuePace (changeState .running x)
    ChangedAmongRuns x t ∧ t.control = inRun .running none x.control ∧
    (∃ p, t.bus.paceSlot = some p ∧ p.running = true ∧ p.cue = a.cue ∧ p.destination = a.first) ∧
    (s.control.axisState ≠ .running →
      ∃ f, t.bus.stateSlot = some f ∧ f.axisState = .running ∧ f.cue = a.cue) := by
  intro x t
  have still : (changeState .running x).drive.permanent = false := by
    rw [changeState_drive_permanent]; exact open_
  have control : (changeState .running x).control = keepRecords .running x.control := changeState_control _ _
  refine ⟨changedAmongRuns_queuePace (changeState_changes open_ rfl) still,
    by rw [queuePace_control, control, keepRecords_running], ⟨_, queuePace_paceSlot still, ?_, ?_, ?_⟩,
    fun changes => ⟨stateFrameOf (refreshGrab (putState .running x)), ?_, rfl, rfl⟩⟩
  · rw [paceFrameOf, control]; rfl
  · rw [paceFrameOf, control]; rfl
  · rw [paceFrameOf, control]; rfl
  · rw [queuePace_bus_stateSlot]
    exact changeState_stateSlot open_ changes

theorem goRun_of_arm (arm : s.control.arm = some a) (stack : List RunContext) : goRun stack s = startRun a stack s := by
  rw [goRun, arm]

/-- The context a nesting GO stacks (R45, R68). -/
theorem pushedRun_eq (r : RunContext) :
    pushedRun r = { r with segment := r.heldAside.getD r.segment, heldAside := none } := by
  rcases r with ⟨_, _, _, _, _ | _, _, _, _, _⟩ <;> rfl

/-- The stack a GO leaves to the run it starts: that of the run it replaces, with that run where it nests (R44, R45). -/
def stackAfterGo (nest : Bool) (c : RunControl) : List RunContext :=
  if c.axisState = .running ∨ c.axisState = .holding ∨ c.axisState = .waiting then
    if nest = true then (c.run.map pushedRun).toList ++ c.stack else c.stack
  else []

/-- A GO for the cue of the arm record starts its run in every state that takes it, where a nesting one finds room
(R42, R44, R45). -/
theorem takeGo_starts {cue : CueNo} {nest : Bool} (numbered : cue ≠ 0) (arm : s.control.arm = some a)
    (own : a.cue = cue)
    (takes : s.control.axisState = .live ∨ s.control.axisState = .armed ∨ s.control.axisState = .releasing ∨
      ((s.control.axisState = .running ∨ s.control.axisState = .holding ∨ s.control.axisState = .waiting) ∧
        (nest = false ∨ s.control.stack.length < 3))) :
    takeGo cue nest s = startRun a (stackAfterGo nest s.control) s := by
  have pending : armedFor cue s.control = true := armedFor_iff.mpr ⟨a, arm, own⟩
  rw [← goRun_of_arm arm]
  rcases takes with live | armed | releasing | ⟨inStack, room⟩
  · have unstacked : stackAfterGo nest s.control = [] := if_neg (by rw [live]; simp)
    rw [takeGo, if_neg numbered, live, unstacked]
    exact if_pos pending
  · have unstacked : stackAfterGo nest s.control = [] := if_neg (by rw [armed]; simp)
    rw [takeGo, if_neg numbered, armed, unstacked]
    exact if_pos pending
  · have unstacked : stackAfterGo nest s.control = [] := if_neg (by rw [releasing]; simp)
    rw [takeGo, if_neg numbered, releasing, unstacked]
    exact if_pos pending
  · rw [takeGo_running nest numbered inStack, if_pos pending, goPending, stackAfterGo, if_pos inStack]
    rcases nest with _ | _
    · rfl
    · have fits : ¬ stackRoom ≤ s.control.stack.length := Nat.not_le.mpr (room.resolve_left nofun)
      rw [if_pos rfl, if_pos rfl, if_neg fits]

/-- Settles O36: the run that `startRun` starts, on the node that has heard the sender. -/
theorem goStartsTheRun : Obligations.GoStartsTheRun := by
  intro sender cue nest a m h s accepted stop open_ numbered arm own record history st inStack takes
  have goes : exec (.go sender cue nest) s = .next (takeGo cue nest (heardFrom sender s)) :=
    congrArg _ (cueFrame_accepts accepted _)
  have active : s.stopInput = true := stop accepted.1 (working_iff.mpr (by tauto))
  have pushes : pushedRun = fun r => { r with segment := r.heldAside.getD r.segment, heldAside := none } :=
    funext pushedRun_eq
  rw [goes, heardFrom_eq]
  generalize (heardFrom sender s).peers = peers
  intro segment run pushed stack counted weightTarget s'
  obtain ⟨changed, control, pace, state⟩ :=
    started_changes (s := { s with peers }) a m h.prev (stackAfterGo nest s.control) open_
  have left_stack : stack = stackAfterGo nest s.control := by rw [stackAfterGo, pushes]
  subst own
  refine ⟨_, congrArg _ ((takeGo_starts (s := { s with peers }) numbered arm rfl takes).trans
    (startRun_eq (s := { s with peers }) active record history _)), changed, ?_, pace, state⟩
  rw [control, left_stack]
  rfl

end Sys2Proof.Machine
end

section
/-! ## What expires, a grab, and a lost peer (R41, R51, R52, R98, R99, R109, R149, R158) -/

namespace Sys2Proof.Machine

variable {s : State}

/-- What an event of its own comes to on a running node (R177). -/
theorem whenRunning_next (running : s.startup.phase = .running) (f : State → State) :
    (.next (whenRunning f s) : Host.Outcome State Fault Refusal) = .next (f s) :=
  congrArg _ (whenRunning_running running f)

/-! ### Records that expire -/

/-- A demand that asks for nothing holds no grab (R108). -/
theorem grabCondition_without_deflection (h : s.live.deflection = 0) : grabCondition s = false := by
  have none_asked (c : Configuration) :
      (decide (0 < c.grabLevel) && decide (c.grabLevel ≤ s.live.deflection.natAbs)) = false := by
    rw [h]
    simp only [Int.natAbs_zero, ← Bool.decide_and, decide_eq_false_iff_not]
    omega
  rcases config : s.startup.config with _ | c <;> simp [grabCondition, config, none_asked]

/-- A stale demand asks for nothing and breaks a grab (R99, R104, R108). -/
theorem staleDemand_eq {r : ChannelRecord} (demand : s.live.demand = some r) :
    staleDemand s = { s with live := { s.live with
      demand := some { r with stale := true, age := max 100 r.age }, velocity := 0, deflection := 0,
      grabTimer := none } } := by
  rw [staleDemand, demand]
  dsimp only
  rw [refreshGrab, grabCondition_without_deflection rfl]
  rfl

theorem releaseRecord_of_owner {r : ChannelRecord} (owned : r.owner ≠ none) :
    releaseRecord r = { r with owner := none, age := max 500 r.age } :=
  if_pos (Option.isSome_iff_ne_none.mpr owned)

/-- An arm record that expires is dropped with cue result EXPIRED, and an armed node goes to LIVE (R41). -/
theorem armExpiry_of_arm {a : ArmRecord} (arm : s.control.arm = some a) :
    armExpiry s =
      let t : State := { s with control := { s.control with arm := none, cueResult := .expired } }
      if s.control.axisState = .armed then enterState .live t else t :=
  if_pos (by rw [arm]; rfl)

theorem armExpiry_without_arm (arm : s.control.arm = none) : armExpiry s = s := if_neg (by rw [arm]; nofun)

/-- Settles O32, by what each expiry does on a running node. -/
theorem recordsExpire : Obligations.RecordsExpire := by
  intro r s running stop open_
  have event := whenRunning_next running
  refine ⟨event _, fun none_held => (event _).trans (congrArg _ (armExpiry_without_arm none_held)), fun a arm => ?_,
    fun demand => (event _).trans (congrArg _ (staleDemand_eq demand)), fun demand owned => (event _).trans ?_,
    fun dial owned => (event _).trans ?_⟩
  · intro s'
    have expires : exec .armExpiry s = _ := (event _).trans (congrArg _ (armExpiry_of_arm arm))
    by_cases armed : s.control.axisState = .armed
    · rw [if_pos armed]
      refine ⟨_, expires.trans (congrArg _ (if_pos armed)), enterLive_live (s := s') open_ ?_ ?_⟩
      · exact stop running (by rw [armed]; rfl)
      · exact fun live => nomatch armed.symm.trans live
    · rw [if_neg armed]
      exact expires.trans (congrArg _ (if_neg armed))
  · rw [releaseChannel, demand, Option.map_some, releaseRecord_of_owner owned]
  · rw [releaseChannel, dial, Option.map_some, releaseRecord_of_owner owned]

/-! ### A grab -/

/-- A change to a state other than RUNNING and HOLDING stops the grab timer (R108). -/
theorem changeState_grabTimer {new : AxisState} (running : new ≠ .running) (holding : new ≠ .holding) :
    (changeState new s).live.grabTimer = none := by
  rw [changeState, announce_live, refreshGrab_no_run (s := putState new s) running holding]

theorem takeGrab_moving (h : s.control.axisState = .running ∨ s.control.axisState = .holding) :
    takeGrab s = enterState .releasing
      { s with control := { s.control with stack := [] }, blend := { s.blend with weightTarget := 0 },
               live := { s.live with remainder := 0 } } := by
  rcases h with h | h <;> rw [takeGrab, h]

theorem takeGrab_elsewhere (h : ¬ (s.control.axisState = .running ∨ s.control.axisState = .holding)) :
    takeGrab s = s := by
  unfold takeGrab
  split
  · exact absurd (.inl ‹_›) h
  · exact absurd (.inr ‹_›) h
  · rfl

/-! ### A lost peer -/

/-- What the loss of a PRESENT entry does (R52, R93, R149). -/
theorem losePeer_present {a : Addr} {e : PeerEntry} (entry : peerAt s.peers a = some e)
    (present : e.presence = .present) :
    losePeer a s =
      let t : State := { s with peers := upsertPeer a loseEntry s.peers }
      if a ∈ s.pace.counted then
        takeCountedLoss { t with pace := { s.pace with counted := s.pace.counted.filter (· ≠ a) } }
      else t := by
  have here : (peerAt s.peers a).any (fun e => e.presence == .present) = true := by simp [entry, present]
  rw [losePeer, if_pos here]
  have others : (· != a) = fun b => decide (b ≠ a) := funext fun b => Bool.eq_iff_iff.mpr (by simp)
  exact if_congr List.contains_iff_mem (by rw [others]) rfl

theorem takeCountedLoss_running (h : s.control.axisState = .running) :
    takeCountedLoss s =
      enterState .holding { s with control := { s.control with holdCause := some .peerLost } } := by
  rw [takeCountedLoss, h]

theorem takeCountedLoss_elsewhere (h : s.control.axisState ≠ .running) : takeCountedLoss s = s := by
  unfold takeCountedLoss
  split
  · exact absurd ‹_› h
  · rfl

/-- Settles O33: a grab enters RELEASING and a counted loss HOLDING, as a change among the states with a run. -/
theorem grabReleasesAndLossHolds : Obligations.GrabReleasesAndLossHolds := by
  intro n a e s running stop open_ st
  have active (moves : hasRun st = true) : s.stopInput = true := stop running (working_of_hasRun moves)
  refine ⟨fun timed => ⟨_, whenRunning_next running _, ?_⟩, fun lawful entry present =>
    ⟨_, whenRunning_next running _, ?_⟩⟩
  · let off : State := { s with live := { s.live with grabTimer := none } }
    rw [show grabExpiry s = takeGrab off from if_pos (by rw [timed]; rfl)]
    by_cases moving : st = .running ∨ st = .holding
    · have moves : hasRun st = true := hasRun_iff.mpr (by tauto)
      have leaves : st ≠ .releasing := by rcases moving with h | h <;> rw [h] <;> nofun
      let x : State := { off with
        control := { s.control with stack := [] }, blend := { s.blend with weightTarget := 0 },
        live := { off.live with remainder := 0 } }
      rw [if_pos moving, takeGrab_moving (s := off) moving]
      obtain ⟨changed, control, told⟩ :=
        enterState_among (s := x) (new := .releasing) open_ (active moves) (sendsPace_of_hasRun moves) rfl leaves
      have untimed : (enterState .releasing x).live.grabTimer = none := by
        rw [enterState_active _ x (active moves)]
        exact changeState_grabTimer nofun nofun
      exact ⟨changed, control.trans (keepRecords_releasing rfl), untimed, told⟩
    · rw [if_neg moving]
      exact takeGrab_elsewhere (s := off) moving
  · have found := peerAt_upsertPeer a loseEntry (fun _ => rfl) s.peers lawful.rising
    rw [entry] at found
    have others (b : Addr) (other : b ≠ a) :=
      peerAt_upsertPeer_other a b other loseEntry (fun _ => rfl) s.peers
    let x : State := { s with
      peers := upsertPeer a loseEntry s.peers, pace := { s.pace with counted := s.pace.counted.filter (· ≠ a) } }
    rw [losePeer_present entry present]
    by_cases counted : a ∈ s.pace.counted
    · rw [if_pos counted]
      by_cases holds : st = .running
      · rw [takeCountedLoss_running (s := x) holds, if_pos ⟨counted, holds⟩]
        obtain ⟨changed, control, told⟩ :=
          enterHolding_among .peerLost (s := x) open_ (active (by rw [holds]; rfl)) holds
        have peers : (enterState .holding { x with control := { x.control with holdCause := some .peerLost } }).peers =
            upsertPeer a loseEntry s.peers := by rw [changed]
        rw [peers]
        exact ⟨found, others, changed, control, told⟩
      · rw [takeCountedLoss_elsewhere (s := x) holds, if_neg fun h => holds h.2]
        exact ⟨found, others, (if_pos counted).symm⟩
    · rw [if_neg counted, if_neg fun h => counted h.1]
      exact ⟨found, others, (if_neg counted).symm⟩

end Sys2Proof.Machine
end

section
/-! ## The drive checks, the stop input, the settle timer and CLEAR (R25, R32 to R35, R136 to R143) -/

namespace Sys2Proof.Machine

variable {s : State}

/-! ### The drive checks as events -/

/-- What a drive check reports on a node with no permanent clash (R34, R136 to R138, R140, R141). -/
theorem reportDrive_outcome (cause : FaultCause) (open_ : s.drive.permanent = false) :
    if s.control.axisState = .setup ∨ s.control.axisState = .parked ∨
        (s.control.axisState = .waking ∧ s.drive.captured = false) then reportDrive cause s = s
    else if s.control.axisState = .fault then reportDrive cause s = reportInFault cause s
    else FaultedFrom cause s (reportDrive cause s) := by
  split
  case isTrue unlooked =>
    rcases unlooked with st | st | ⟨st, uncaptured⟩ <;> rw [reportDrive, if_neg]
    · rw [driveChecked, st]; nofun
    · rw [driveChecked, st]; nofun
    · rw [driveChecked, st, uncaptured]; nofun
  case isFalse looked =>
    obtain ⟨notSetup, notParked, notBlind⟩ : s.control.axisState ≠ .setup ∧ s.control.axisState ≠ .parked ∧
        ¬ (s.control.axisState = .waking ∧ s.drive.captured = false) := by tauto
    have checked : driveChecked s = true := by
      unfold driveChecked
      split
      · exact absurd ‹_› notSetup
      · exact absurd ‹_› notParked
      · exact Bool.not_eq_false _ ▸ fun uncaptured => notBlind ⟨‹_›, uncaptured⟩
      · rfl
    rw [reportDrive, if_pos checked]
    split
    case isTrue fault => rw [reportFault, fault]
    case isFalse faultless => exact reportFault_faults cause open_ notSetup notParked faultless

/-- What a lost drive changes in FAULT (R141). -/
theorem reportInFault_lost_eq (open_ : s.drive.permanent = false) : reportInFault .driveLost s =
    if s.drive.faultCause = some .following ∨ s.drive.faultCause = some .link ∨
        s.drive.faultCause = some .addressClash then
      { s with drive := { s.drive with faultCause := some .driveLost, enable := false } }
    else s := by
  rcases cause : s.drive.faultCause with _ | _ | _ | _ | _ | _ <;> simp [reportInFault, cause, open_]

/-- Settles O28, by what a drive check reports. -/
theorem driveChecksFault : Obligations.DriveChecksFault := by
  intro s running open_ lost lag st
  have loses : exec .driveLost s = .next (reportDrive .driveLost lost) := whenRunning_next running _
  have lags : exec .following s = .next (reportDrive .following lag) := whenRunning_next running _
  have reportsLost := reportDrive_outcome (s := lost) .driveLost open_
  have reportsLag := reportDrive_outcome (s := lag) .following open_
  rw [loses, lags]
  split
  case isTrue unlooked =>
    rw [if_pos (by exact unlooked)] at reportsLost reportsLag
    exact ⟨congrArg _ reportsLost, congrArg _ reportsLag⟩
  case isFalse looked =>
    rw [if_neg (by exact looked)] at reportsLost reportsLag
    split
    case isTrue fault =>
      rw [if_pos (by exact fault)] at reportsLost reportsLag
      exact ⟨congrArg _ reportsLag, congrArg _ (reportsLost.trans (reportInFault_lost_eq open_))⟩
    case isFalse faultless =>
      rw [if_neg (by exact faultless)] at reportsLost reportsLag
      exact ⟨⟨_, rfl, reportsLost⟩, _, rfl, reportsLag⟩

/-! ### The stop input and the settle timer -/

/-- A halted node is no working one (R32). -/
theorem not_halted_of_working (steers : working s.control.axisState = true) : s.control.axisState ≠ .halted := by
  intro halted
  rw [halted] at steers
  exact nomatch steers

/-- What a level of the stop input does (R32, R33, R139). -/
theorem stopChange_eq (active : Bool) (s : State) : stopChange active s =
    let t : State := { s with stopInput := active }
    if active = false ∧ s.stopInput = true ∧ working s.control.axisState = true then haltNode .stopInput t
    else if active = true ∧ s.stopInput = false ∧ s.control.axisState = .halted ∧ lastStep s.blend = 0 then
      enterLiveAt (presentSetpoint s.blend) t
    else t := by
  rcases active with _ | _ <;> rcases level : s.stopInput with _ | _ <;> simp [stopChange, level]

/-- What the end of WAKING does (R25, R136). -/
theorem settleExpiry_waking (waking : s.control.axisState = .waking) (timed : s.control.settle ≠ none) :
    settleExpiry s = if s.drive.captured = false then reportFault .driveLost s
      else if s.stopInput = true then enterState .live (setRecentre s) else haltNode .stopInput s := by
  rw [settleExpiry, if_pos ⟨waking, Option.isSome_iff_ne_none.mpr timed⟩]
  exact if_congr (Bool.not_eq_true' _).to_iff rfl rfl

/-- Settles O30, by what a level and the timer's end do. -/
theorem stopInputAndSettleTimer : Obligations.StopInputAndSettleTimer := by
  intro active s running open_ s'
  have changes : exec (.stopInputChange active) s = .next (stopChange active s) := congrArg _ (if_pos running)
  have expires : exec .settleTimerExpiry s = .next (settleExpiry s) := whenRunning_next running _
  rw [changes, expires, stopChange_eq]
  constructor
  · split
    case isTrue halts => exact ⟨_, rfl, haltNode_halts .stopInput (s := s') open_ (not_halted_of_working halts.2.2)⟩
    case isFalse =>
      split
      case isTrue rests =>
        obtain ⟨on, -, halted, -⟩ := rests
        exact ⟨_, rfl, enterLiveAt_live _ (s := s') open_ on (fun live => nomatch halted.symm.trans live)⟩
      case isFalse => rfl
  · split
    case isTrue wakes =>
      obtain ⟨waking, timed⟩ := wakes
      have other {st : AxisState} (h : AxisState.waking ≠ st) : s.control.axisState ≠ st := waking ▸ h
      refine ⟨_, congrArg _ (settleExpiry_waking waking timed), ?_⟩
      split
      case isTrue => exact reportFault_faults .driveLost open_ (other nofun) (other nofun) (other nofun)
      case isFalse =>
        split
        case isTrue on => exact enterLive_live (s := setRecentre s) open_ on (other nofun)
        case isFalse => exact haltNode_halts .stopInput open_ (other nofun)
    case isFalse sleeps =>
      exact congrArg _ (if_neg fun h => sleeps ⟨h.1, Option.isSome_iff_ne_none.mp h.2⟩)

/-! ### CLEAR -/

/-- When a cause counts as gone, with no permanent clash (R142). -/
theorem causeGone_iff {c : Configuration} {d : DriveLink} (open_ : d.permanent = false) : causeGone c d = true ↔
    (d.faultCause = some .driveLost ∧ d.missed = 0) ∨
      (d.faultCause = some .outOfRange ∧ ∃ x, d.lastFeedback = some x ∧ Within c x) ∨
      (d.faultCause = some .following ∧ d.following = 0) ∨
      (d.faultCause = some .link ∧ d.linkIntact = true) ∨
      (d.faultCause = some .addressClash ∧ ∃ n, d.clashAge = some n ∧ 1000 ≤ n) := by
  have quiet : (d.clashAge.any fun n => decide (clashQuietMs ≤ n)) = true ↔ ∃ n, d.clashAge = some n ∧ 1000 ≤ n := by
    rw [Option.any_eq_true]
    exact exists_congr fun n => and_congr_right fun _ => decide_eq_true_iff
  rcases cause : d.faultCause with _ | _ | _ | _ | _ | _ <;>
    simp [causeGone, cause, open_, withinLimits_iff, quiet, Option.any_eq_true]

/-- The conditions of a CLEAR, at the last feedback (R143). -/
theorem clearAccepted_iff {c : Configuration} {x : Int} (feedback : s.drive.lastFeedback = some x) :
    clearAccepted c s = true ↔ causeGone c s.drive = true ∧ s.drive.missed = 0 ∧ s.drive.following = 0 ∧
      Within c x ∧ lastStep s.blend = 0 := by
  simp [clearAccepted, feedback, withinLimits_iff, and_assoc]

/-- The node an accepted CLEAR leaves FAULT from: its enable on and its positions at the feedback (R129, R143). -/
def withCleared (x : Int) (s : State) : State :=
  { s with drive := { s.drive with enable := true },
           blend := { s.blend with
             history := if s.drive.enable = true then s.blend.history else some ⟨x, x⟩, live := some x } }

theorem clearFault_eq (x : Int) (s : State) : clearFault x s =
    if s.stopInput = true then enterLiveAt x (withCleared x s) else haltNode .stopInput (withCleared x s) := by
  rcases enable : s.drive.enable with _ | _
  · rw [clearFault, enable, withCleared, enable]
    rfl
  · have on : { s.drive with enable := true } = s.drive := by rw [← enable]
    rw [clearFault, enable, withCleared, on, enable]
    rfl

theorem takeClear_accepted {c : Configuration} {x : Int} (config : s.startup.config = some c)
    (feedback : s.drive.lastFeedback = some x) (fits : clearAccepted c s = true) :
    takeClear s = { result := .ok, data := [], state := clearFault x s } := by
  rw [takeClear, config, feedback]
  exact if_pos fits

theorem takeClear_refused {c : Configuration} (config : s.startup.config = some c)
    (unfit : ∀ x, s.drive.lastFeedback = some x → ¬ clearAccepted c s = true) :
    takeClear s = refuse .causePresent s := by
  rcases feedback : s.drive.lastFeedback with _ | x
  · rw [takeClear, config, feedback]
  · rw [takeClear, config, feedback]
    exact if_neg (unfit x feedback)

/-- Settles O31: an accepted CLEAR leaves FAULT from the node with its enable on, and any other changes nothing. -/
theorem clearLeavesFault : Obligations.ClearLeavesFault := by
  intro h args c s taken fault config d gone
  have open_ : s.drive.permanent = false := taken.2.2.2.1
  have clears : exec (.clear h args) s = .next (command h .clear takeClear s) := rfl
  rw [clears, command_taken taken .clear takeClear (.inl (by rw [fault]; nofun)), fault, heardFrom_eq]
  generalize (heardFrom h.sender s).peers = peers
  intro s' accepted
  have gate_open : gate .clear .fault = none := rfl
  rw [gate_open]
  have fits_iff {x : Int} (feedback : d.lastFeedback = some x) : clearAccepted c s' = true ↔ accepted x := by
    rw [clearAccepted_iff (s := s') feedback, causeGone_iff (d := s'.drive) open_]
    exact ⟨fun ⟨isGone, missed, following, rest⟩ => ⟨isGone, missed, following, feedback, rest⟩,
      fun ⟨isGone, missed, following, _, rest⟩ => ⟨isGone, missed, following, rest⟩⟩
  refine ⟨fun unfit => ?_, fun x fits => ?_⟩
  · dsimp only
    rw [takeClear_refused (s := s') config fun x feedback fit => unfit x ((fits_iff feedback).mp fit)]
    rfl
  · have feedback : d.lastFeedback = some x := fits.2.2.2.1
    refine ⟨clearFault x s', ?_, ?_⟩
    · dsimp only
      rw [takeClear_accepted (s := s') config feedback ((fits_iff feedback).mpr fits)]
    · rw [clearFault_eq]
      have other {st : AxisState} (h : AxisState.fault ≠ st) : s'.control.axisState ≠ st := fault.symm ▸ h
      split
      case isTrue on => exact enterLiveAt_live x (s := withCleared x s') open_ on (other nofun)
      case isFalse => exact haltNode_halts .stopInput (s := withCleared x s') open_ (other nofun)

end Sys2Proof.Machine
end

section
/-! ## STATE frames, PARK, WAKE and RESET (R36, R37, R54, R166, R174, R175, R177, R178) -/

namespace Sys2Proof.Machine

variable {s : State}

/-! ### What a STATE frame shows -/

theorem shownCue_of_run {c : RunControl} {r : RunContext} (moves : hasRun c.axisState = true) (run : c.run = some r) :
    shownCue c = r.cue := by
  rcases hasRun_iff.mp moves with state | state | state | state <;> rw [shownCue, state, run] <;> rfl

theorem shownCue_of_arm {c : RunControl} {a : ArmRecord} (state : c.axisState = .armed ∨ c.axisState = .live)
    (arm : c.arm = some a) : shownCue c = a.cue := by
  rcases state with state | state <;> rw [shownCue, state, arm] <;> rfl

/-- The states that show no cue number (R54). -/
theorem shownCue_none {c : RunControl} (h : c.axisState = .live ∧ c.arm = none ∨
    (c.axisState ≠ .live ∧ sendsPace c.axisState = false)) : shownCue c = 0 := by
  rcases h with ⟨live, unarmed⟩ | ⟨notLive, quiet⟩
  · rw [shownCue, live, unarmed]; rfl
  · revert notLive quiet
    rw [shownCue]
    cases c.axisState <;> simp [sendsPace]

theorem shownCause_none (halted : s.control.axisState ≠ .halted) (holding : s.control.axisState ≠ .holding)
    (fault : s.control.axisState ≠ .fault) : shownCause s = none := by
  unfold shownCause
  split
  · exact absurd ‹_› halted
  · exact absurd ‹_› holding
  · exact absurd ‹_› fault
  · rfl

/-- The frame the node fills shows it (R54, R175). -/
theorem shows_stateFrameOf (s : State) : Shows s (stateFrameOf s) where
  axis_kind := rfl
  axis_state := rfl
  cue_result := rfl
  running_cue _ moves run := shownCue_of_run moves run
  armed_cue _ state arm := shownCue_of_arm state arm
  no_cue := shownCue_none
  halt_cause halted := by rw [stateFrameOf, shownCause, halted]
  hold_cause holding := by rw [stateFrameOf, shownCause, holding]
  fault_cause fault := by rw [stateFrameOf, shownCause, fault]
  no_cause := shownCause_none
  pending_arm := by simp [stateFrameOf, pendingArm, Option.isSome_iff_ne_none]
  saving := Option.isSome_iff_ne_none
  recentre := rfl
  limited := rfl
  position x position := by
    subst position
    rfl

/-- Settles O27: what fills the slot is `stateFrameOf`. -/
theorem stateFrameShowsTheNode : Obligations.StateFrameShowsTheNode := by
  intro s running open_ filled
  have fills {t : State} (h : t.drive.permanent = false) : filled t (queueState t) :=
    ⟨_, shows_stateFrameOf t, queueState_open h⟩
  refine ⟨fun n timed => ?_, fun sender target accepted => ?_⟩
  · have queues : stateInterval s = queueState s := if_pos (by rw [timed]; rfl)
    exact ⟨_, whenRunning_next running _, queues ▸ fills open_⟩
  · have polls : exec (.poll sender target) s = .next (takePoll target (heardFrom sender s)) :=
      congrArg _ (receive_accepts accepted _ _)
    rw [polls, heardFrom_eq]
    generalize (heardFrom sender s).peers = peers
    rcases target with _ | address
    · exact ⟨_, rfl, fills open_⟩
    · rw [takePoll]
      dsimp only
      by_cases mine : address = 0 ∨ address = s.startup.address
      · rw [if_pos mine, if_pos (by simpa using mine)]
        exact ⟨_, rfl, fills open_⟩
      · rw [if_neg mine, if_neg (by simpa using mine)]

/-! ### PARK and WAKE -/

/-- Parking, from another state: the node as it parks, told by a STATE frame (R36, R174). -/
theorem parkNode_eq (other : s.control.axisState ≠ .parked) :
    let x : State := { s with
      drive := { s.drive with enable := false },
      bus := { s.bus with paceSlot := none, inHand := noteReplaced .pace s.bus.inHand },
      blend := { s.blend with live := none, history := none, limited := false } }
    parkNode s =
      queueState { putState .parked x with live := { (putState .parked x).live with grabTimer := none } } := by
  intro x
  rw [parkNode, enterState_not_working rfl]
  exact changeState_no_run other rfl

/-- Waking, from another state: the node as it wakes, told by a STATE frame (R25, R174). -/
theorem enterWaking_of_ne (other : s.control.axisState ≠ .waking) :
    let x : State := { s with
      control := { s.control with settle := some 0 },
      drive := { s.drive with captured := false, missed := 0, following := 0, enable := false },
      blend := { s.blend with live := none, history := none, limited := false } }
    enterWaking s =
      queueState { putState .waking x with live := { (putState .waking x).live with grabTimer := none } } := by
  intro x
  rw [enterWaking_eq]
  exact changeState_no_run other rfl

/-- Settles O9, by the states PARK and WAKE change to, on the node that has heard the requester. -/
theorem parkAndWake : Obligations.ParkAndWake := by
  intro h args s taken
  have open_ : s.drive.permanent = false := taken.2.2.2.1
  refine ⟨fun live => ?_, fun parked => ?_⟩
  · have parks : exec (.park h args) s = .next (command h .park takePark s) := rfl
    have gate_open : gate .park .live = none := rfl
    rw [parks, command_taken taken .park takePark (.inl (by rw [live]; nofun)), live, gate_open, heardFrom_eq]
    generalize (heardFrom h.sender s).peers = peers
    dsimp only
    rw [takePark]
    by_cases rests : lastStep s.blend = 0 ∧ s.control.arm = none
    · rw [if_pos rests, if_pos rests]
      refine ⟨_, rfl, ?_⟩
      dsimp only
      rw [parkNode_eq (s := { s with peers }) (fun parked => nomatch live.symm.trans parked),
        queueState_open (by exact open_)]
      exact ⟨rfl, rfl, rfl, rfl, rfl, rfl, rfl, rfl, rfl, rfl, rfl⟩
    · rw [if_neg rests, if_neg rests]
      rfl
  · have wakes : exec (.wake h args) s = .next (command h .wake takeWake s) := rfl
    have gate_open : gate .wake .parked = none := rfl
    rw [wakes, command_taken taken .wake takeWake (.inr rfl), parked, gate_open, heardFrom_eq]
    generalize (heardFrom h.sender s).peers = peers
    refine ⟨_, rfl, ?_⟩
    dsimp only [takeWake]
    rw [enterWaking_of_ne (s := { s with peers }) (fun waking => nomatch parked.symm.trans waking),
      queueState_open (by exact open_)]
    exact ⟨rfl, rfl, rfl, rfl, rfl, rfl, rfl, rfl⟩

/-! ### RESET -/

/-- Settles O4: the values are those of `resetNode`, and the straps those of `releaseReset`. -/
theorem resetRestoresEveryBlock : Obligations.ResetRestoresEveryBlock := by
  intro s
  refine ⟨fun address setup asserted => congrArg _ (if_pos asserted), resetNode s, rfl, ?_⟩
  have unset (f : ConfigField) : StagedConfiguration.unset[f] = none := by simp [StagedConfiguration.unset]
  refine ⟨rfl, rfl, rfl, rfl, rfl, rfl, unset, ?_⟩
  repeat' apply And.intro
  all_goals rfl

end Sys2Proof.Machine
end

section
/-! ## Which commands a state takes (R37, R154 to R157, R171, R172, R177) -/

namespace Sys2Proof.Machine

variable {s : State} {h : CommandHeader} {k : CommandClass} {act : State → Answer}

/-! ### In reset and loading -/

/-- The commands that reset, loading and the stop pin take besides the running node's (log 27). -/
abbrev TakenEarly (i : Instr) : Prop :=
  i = .reset ∨ (∃ a b, i = .resetRelease a b) ∨ i = .loadingEnd ∨ ∃ active, i = .stopInputChange active

/-- An event of the node's own is one of a running node (R177). -/
theorem exec_of_own_event {i : Instr} (bears : frameSender i = none) (later : ¬ TakenEarly i) :
    ∃ f, ∀ s, exec i s = .next (whenRunning f s) := by
  cases i
  case reset => exact absurd (.inl rfl) later
  case resetRelease a b => exact absurd (.inr (.inl ⟨a, b, rfl⟩)) later
  case loadingEnd => exact absurd (.inr (.inr (.inl rfl))) later
  case stopInputChange active => exact absurd (.inr (.inr (.inr ⟨active, rfl⟩))) later
  all_goals cases bears <;> exact ⟨_, fun _ => rfl⟩

/-- Before a node runs it takes nothing else (R171, R172, R177; log 27). -/
theorem exec_early {i : Instr} (early : s.startup.phase ≠ .running) (later : ¬ TakenEarly i) :
    exec i s = .next s := by
  rcases bears : frameSender i with _ | a
  · obtain ⟨f, event⟩ := exec_of_own_event bears later
    exact (event s).trans (congrArg _ (if_neg early))
  · obtain ⟨record, handle, received⟩ := exec_of_frameSender bears s
    exact received.trans (congrArg _ (receive_early early a record handle))

/-! ### The rows of R156's table -/

/-- The meaning of a COMMAND of a class, in every state. -/
def CommandOf (h : CommandHeader) (k : CommandClass) (i : Instr) : Prop :=
  ∃ act, ∀ s, exec i s = .next (command h k act s)

theorem commandOf_edits (args : List Byte) :
    ∀ i ∈ [Instr.markOpen h args, .markSet h args, .markClose h args, .markErase h args, .save h args],
      CommandOf h .edit i := by
  simp only [List.forall_mem_cons]
  exact ⟨⟨_, fun _ => rfl⟩, ⟨_, fun _ => rfl⟩, ⟨_, fun _ => rfl⟩, ⟨_, fun _ => rfl⟩, ⟨_, fun _ => rfl⟩,
    List.forall_mem_nil _⟩

theorem commandOf_reads (args : List Byte) :
    ∀ i ∈ [Instr.markRead h args, .peerRead h args], CommandOf h .read i := by
  simp only [List.forall_mem_cons]
  exact ⟨⟨_, fun _ => rfl⟩, ⟨_, fun _ => rfl⟩, List.forall_mem_nil _⟩

theorem commandOf_configs (args : List Byte) :
    ∀ i ∈ [Instr.configSet h args, .configDone h args], CommandOf h .config i := by
  simp only [List.forall_mem_cons]
  exact ⟨⟨_, fun _ => rfl⟩, ⟨_, fun _ => rfl⟩, List.forall_mem_nil _⟩

theorem commandOf_others (code : Byte) (args : List Byte) :
    ∀ i ∈ [Instr.park h args, .clear h args, .unknownCommand h code args],
      CommandOf h .park i ∨ CommandOf h .clear i ∨ CommandOf h .unknown i := by
  simp only [List.forall_mem_cons]
  exact ⟨.inl ⟨_, fun _ => rfl⟩, .inr (.inl ⟨_, fun _ => rfl⟩), .inr (.inr ⟨_, fun _ => rfl⟩),
    List.forall_mem_nil _⟩

/-- All COMMANDs but WAKE are of another class (R156). -/
theorem commandOf_all (code : Byte) (args : List Byte) {i : Instr}
    (listed : i ∈ [Instr.markOpen h args, .markSet h args, .markClose h args, .markErase h args, .save h args] ++
      [.markRead h args, .peerRead h args] ++ [.configSet h args, .configDone h args] ++
      [.park h args, .clear h args, .unknownCommand h code args]) : ∃ k, k ≠ .wake ∧ CommandOf h k i := by
  simp only [List.mem_append, or_assoc] at listed
  rcases listed with edit | read | config | other
  · exact ⟨.edit, nofun, commandOf_edits args i edit⟩
  · exact ⟨.read, nofun, commandOf_reads args i read⟩
  · exact ⟨.config, nofun, commandOf_configs args i config⟩
  · rcases commandOf_others code args i other with park | clear | unknown
    · exact ⟨.park, nofun, park⟩
    · exact ⟨.clear, nofun, clear⟩
    · exact ⟨.unknown, nofun, unknown⟩

/-! ### Ignored, refused and short of arguments -/

/-- A COMMAND the node does not act on, or has no room to answer, leaves its sender heard (R37, R154 to R156). -/
theorem command_ignored (accepted : Accepts h.sender s)
    (unmet : h.sender = 0 ∨ (h.target ≠ 0 ∧ h.target ≠ s.startup.address) ∨ s.drive.permanent = true ∨
      (s.control.axisState = .parked ∧ k ≠ .wake) ∨ 4 ≤ s.bus.replies.length) :
    command h k act s = heardFrom h.sender s := by
  rw [command, receive_accepts accepted]
  change answer h k act (heardFrom h.sender s) = _
  rw [heardFrom_eq]
  generalize (heardFrom h.sender s).peers = peers
  rw [answer]
  rcases unmet with unaddressed | ⟨notAll, notOwn⟩ | permanent | ⟨parked, notWake⟩ | full
  · exact if_pos (by simp [actsOn, unaddressed])
  · have elsewhere : (h.target == 0 || h.target == s.startup.address) = false :=
      Bool.or_eq_false_iff.mpr ⟨beq_false_of_ne notAll, beq_false_of_ne notOwn⟩
    exact if_pos (by dsimp only [actsOn]; rw [elsewhere]; simp)
  · exact if_pos (by simp [actsOn, permanent])
  · exact if_pos (by simp [actsOn, parked, notWake])
  · rw [if_pos (c := replyRoom ≤ _) full, ite_self]

/-- What R156 answers at once to a COMMAND the node acts on. -/
theorem commandOf_gated {i : Instr} {r : Result} (commanded : CommandOf h k i) (taken : Taken h s)
    (acts : s.control.axisState ≠ .parked ∨ k = .wake) (gated : gate k s.control.axisState = some r) :
    exec i s = .next (sendReply h r [] (heardFrom h.sender s)) := by
  obtain ⟨act, runs⟩ := commanded
  rw [runs, command_taken taken k act acts, gated]

/-- Configuration is locked once it is in force (R156). -/
theorem gate_config_locked {st : AxisState} (notSetup : st ≠ .setup) (notWaking : st ≠ .waking) :
    gate .config st = some .locked := by
  cases st <;> simp_all [gate]

theorem takeMarkSet_short {args : List Byte} (short : args.length < 5) : takeMarkSet h args s = refuse .badArg s := by
  unfold takeMarkSet
  split
  · simp only [List.length_cons] at short; omega
  · rfl

theorem takeMarkRead_short {args : List Byte} (short : args.length < 2) : takeMarkRead args s = refuse .badArg s := by
  unfold takeMarkRead
  split
  · simp only [List.length_cons] at short; omega
  · rfl

theorem takeConfigSet_short {args : List Byte} (short : args.length < 5) :
    takeConfigSet args s = refuse .badArg s := by
  unfold takeConfigSet
  split
  · simp only [List.length_cons] at short; omega
  · rfl

/-- Settles O43, row by row of R156's table. -/
theorem commandsAreGatedByState : Obligations.CommandsAreGatedByState := by
  refine ⟨fun i s early notReset notRelease notLoaded notPin => exec_early early ?_,
    fun active s early => congrArg _ (if_neg early), ?_⟩
  · rintro (reset | ⟨a, b, release⟩ | loaded | ⟨active, pin⟩)
    exacts [notReset reset, notRelease a b release, notLoaded loaded, notPin active pin]
  intro h code args s accepted st edits reads configs others heard gives
  have ignores {i : Instr} {k : CommandClass} (commanded : CommandOf h k i)
      (unmet : h.sender = 0 ∨ (h.target ≠ 0 ∧ h.target ≠ s.startup.address) ∨ s.drive.permanent = true ∨
        (s.control.axisState = .parked ∧ k ≠ .wake) ∨ 4 ≤ s.bus.replies.length) : exec i s = .next heard := by
    obtain ⟨act, runs⟩ := commanded
    rw [runs, command_ignored accepted unmet]
  have wakes : CommandOf h .wake (.wake h args) := ⟨_, fun _ => rfl⟩
  refine ⟨fun unmet i listed => ?_, fun parked i listed => ?_, fun taken awake => ?_, fun taken takes => ?_,
    fun taken takes => ?_, fun taken setup short => ?_⟩
  · have unmet' {k : CommandClass} : h.sender = 0 ∨ (h.target ≠ 0 ∧ h.target ≠ s.startup.address) ∨
        s.drive.permanent = true ∨ (s.control.axisState = .parked ∧ k ≠ .wake) ∨ 4 ≤ s.bus.replies.length := by tauto
    rcases List.mem_append.mp listed with other | wake
    · obtain ⟨k, -, commanded⟩ := commandOf_all code args other
      exact ignores commanded unmet'
    · obtain rfl := List.mem_singleton.mp wake
      exact ignores wakes unmet'
  · obtain ⟨k, notWake, commanded⟩ := commandOf_all code args listed
    exact ignores commanded (.inr (.inr (.inr (.inl ⟨parked, notWake⟩))))
  · have answers {i : Instr} {k : CommandClass} {r : Result} (commanded : CommandOf h k i)
        (gated : gate k st = some r) : gives i r := commandOf_gated commanded taken (.inl awake) gated
    refine ⟨answers (k := .unknown) ⟨_, fun _ => rfl⟩ rfl, answers wakes (if_neg awake),
      fun elsewhere => answers (k := .park) ⟨_, fun _ => rfl⟩ (if_neg elsewhere),
      fun elsewhere => answers (k := .clear) ⟨_, fun _ => rfl⟩ (if_neg elsewhere),
      fun early i edit => answers (commandOf_edits args i edit) ?_, fun waking i listed => ?_,
      fun notSetup notWaking i config => answers (commandOf_configs args i config) ?_⟩
    · rcases early with state | state <;> rw [state] <;> rfl
    · rcases List.mem_append.mp listed with read | config
      · exact answers (commandOf_reads args i read) (if_pos waking)
      · exact answers (commandOf_configs args i config) (by rw [waking]; rfl)
    · exact gate_config_locked notSetup notWaking
  · have edited {i : Instr} {act : State → Answer} (runs : exec i s = .next (command h .edit act s))
        (bad : act heard = refuse .badArg heard) : gives i .badArg := by
      rw [command_edit taken takes, bad] at runs
      exact runs
    refine ⟨fun short => ?_, fun short => edited rfl (takeMarkSet_short short)⟩
    obtain rfl : args = [] := List.length_eq_zero_iff.mp (Nat.lt_one_iff.mp short)
    exact ⟨edited rfl rfl, edited rfl rfl, edited rfl rfl⟩
  · have readings {i : Instr} {act : State → Answer} (runs : exec i s = .next (command h .read act s))
        (bad : act heard = refuse .badArg heard) : gives i .badArg := by
      rw [command_read taken takes, bad] at runs
      exact runs
    refine ⟨fun short => ?_, fun short => readings rfl (takeMarkRead_short short)⟩
    obtain rfl : args = [] := List.length_eq_zero_iff.mp (Nat.lt_one_iff.mp short)
    exact readings rfl rfl
  · exact config_replies taken setup (takeConfigSet_short short)

end Sys2Proof.Machine
end

section
/-! ## Braking to rest (R33, R113, R122, R125, R127, R128) -/

namespace Sys2Proof.Machine

variable {c : Configuration} {s : State} {h : History}

/-! ### The stopping profile -/

/-- The last step with a_step shed (R127). -/
def shedStep (aStep : Nat) (h : History) : Int :=
  (h.prev - h.prev2).sign * ((h.prev - h.prev2).natAbs - aStep : Nat)

/-- That step within the approach cap (R122, R127). -/
def cappedBrake (c : Configuration) (aStep : Nat) (h : History) : Int :=
  let shed := shedStep aStep h
  let distance : Int := if 0 < shed then c.limitHigh - h.prev else h.prev - c.limitLow
  shed.sign * min shed.natAbs (Nat.sqrt (2 * aStep * distance.toNat))

/-- That step where it stays within the limits, and no step elsewhere (R127). -/
def brakeStep (c : Configuration) (aStep : Nat) (h : History) : Int :=
  let capped := cappedBrake c aStep h
  if c.limitLow ≤ h.prev + capped ∧ h.prev + capped ≤ c.limitHigh then capped else 0

theorem stoppingProfile_eq (c : Configuration) (aStep : Nat) (h : History) (trim : Int) :
    stoppingProfile c aStep h trim =
      { setpoint := h.prev + brakeStep c aStep h, trim,
        limited := cappedBrake c aStep h != shedStep aStep h || brakeStep c aStep h != cappedBrake c aStep h } := by
  have capped : (if shedStep aStep h = 0 then 0 else withSign (shedStep aStep h)
      (min (shedStep aStep h).natAbs (approachCap c aStep h.prev (shedStep aStep h)))) = cappedBrake c aStep h := by
    rw [approachCap, squareRoot_eq_sqrt, approachDistance_eq]
    split
    case isTrue rests => rw [cappedBrake, rests]; simp
    case isFalse => rfl
  have step : (if withinLimits c (h.prev + cappedBrake c aStep h) = true then cappedBrake c aStep h else 0) =
      brakeStep c aStep h := if_congr withinLimits_iff rfl rfl
  rw [← step, ← capped]
  rfl

/-- The brake sheds a_step or more (R127). -/
theorem natAbs_brakeStep_le (c : Configuration) (aStep : Nat) (h : History) :
    (brakeStep c aStep h).natAbs ≤ (h.prev - h.prev2).natAbs - aStep := by
  have shed : (shedStep aStep h).natAbs ≤ (h.prev - h.prev2).natAbs - aStep := natAbs_withSign_le _ _
  have capped : (cappedBrake c aStep h).natAbs ≤ (shedStep aStep h).natAbs :=
    (natAbs_withSign_le _ _).trans (Nat.min_le_left _ _)
  dsimp only [brakeStep]
  split
  · exact capped.trans shed
  · exact Nat.zero_le _

/-- A size with a step's sign does not turn the step. -/
theorem withSign_mul_nonneg (like : Int) (size : Nat) : 0 ≤ withSign like size * like := by
  have same : withSign like size * like = size * |like| := by
    rw [withSign, mul_right_comm, Int.sign_mul_self_eq_abs, mul_comm]
  rw [same]
  positivity

/-- Steps that do not turn one another, from the first to the third over one that is 0 only with the first. -/
theorem mul_nonneg_of_unturned {x y z : Int} (first : 0 ≤ x * y) (second : 0 ≤ y * z) (rests : y = 0 → x = 0) :
    0 ≤ x * z := by
  by_cases still : y = 0
  · simp [rests still]
  · refine le_of_mul_le_mul_right ?_ (mul_self_pos.mpr still)
    calc 0 * (y * y) = 0 := zero_mul _
      _ ≤ (x * y) * (y * z) := mul_nonneg first second
      _ = x * z * (y * y) := by ring

/-- The brake never turns the motion (R127). -/
theorem brakeStep_mul_nonneg (c : Configuration) (aStep : Nat) (h : History) :
    0 ≤ brakeStep c aStep h * (h.prev - h.prev2) := by
  have capped : 0 ≤ cappedBrake c aStep h * (h.prev - h.prev2) :=
    mul_nonneg_of_unturned (withSign_mul_nonneg _ _) (withSign_mul_nonneg _ _) fun rests => by
      rw [cappedBrake, rests]; rfl
  dsimp only [brakeStep]
  split
  · exact capped
  · simp

/-! ### The update of a node that brakes -/

/-- What the mix stage makes of a node in HALTED or FAULT (R127). -/
theorem mixed_stopped (history : s.blend.history = some h)
    (stopped : s.control.axisState = .halted ∨ s.control.axisState = .fault) :
    let m := mixed c s
    let step := brakeStep c s.blend.aStep h
    let capped := cappedBrake c s.blend.aStep h
    m.state.blend.history = some ⟨h.prev + step, h.prev⟩ ∧ m.state.control = s.control ∧
      (m.state.blend.limited = true ↔ capped ≠ shedStep s.blend.aStep h ∨ step ≠ capped) ∧
      (m.atRest = true ↔ step = 0) := by
  have still : hasRun s.control.axisState = false := by rcases stopped with st | st <;> rw [st] <;> rfl
  have control := (beforeMix_without_run (c := c) still).1
  have aStep : (beforeMix c s).blend.aStep = s.blend.aStep := congrArg Steady.aStep (steady_beforeMix c s)
  have mixes : mixed c s =
      stoppedUpdate c { beforeMix c s with blend := { (beforeMix c s).blend with limited := false } } := by
    rw [← control] at stopped
    rcases stopped with st | st <;> rw [mixed, mixStage, st]
  intro m step capped
  refine ⟨?_, (mixed_control c s).trans control, ?_, ?_⟩
  all_goals
    dsimp only [m]
    rw [mixes]
    simp only [stoppedUpdate, beforeMix_history, history, takeSetpoint, stoppingProfile_eq, aStep]
  · rfl
  · simp [step, capped]
  · simp [step]

/-- Where the exchange trips no check it touches the drive link alone (R132, R134). -/
theorem exchangeStage_quiet (quiet : QuietClose c s.drive) :
    ∃ drive, exchangeStage c (mixed c s).pair (mixed c s).state = { (mixed c s).state with drive := drive } := by
  have still : QuietClose c (mixed c s).state.drive := by
    change QuietClose c { (mixed c s).state.drive with faultCause := none }
    rw [mixed_drive]
    exact quiet
  obtain ⟨x, r, opens⟩ := sendRecord_opens (mixed c s).pair (counted c (mixed c s).state)
  have exchanged : exchangeStage c (mixed c s).pair (mixed c s).state =
      sendRecord (mixed c s).pair (counted c (mixed c s).state) :=
    congrArg (sendRecord _) (closeExchange_quiet still.1 still.2)
  exact ⟨_, exchanged.trans opens⟩

theorem reportInFault_control (cause : FaultCause) (s : State) : (reportInFault cause s).control = s.control := by
  unfold reportInFault
  split
  · split
    · rfl
    · rfl
    · rfl
    · split <;> rfl
    · rfl
    · rfl
  · rfl
  all_goals rfl

/-- In FAULT a report leaves run control alone (R141). -/
theorem reportDrive_control_of_fault {cause : FaultCause} (fault : s.control.axisState = .fault) :
    (reportDrive cause s).control = s.control := by
  have checked : driveChecked s = true := by rw [driveChecked, fault]
  have reports : reportDrive cause s = reportInFault cause s := by
    rw [reportDrive, if_pos checked, reportFault, fault]
  rw [reports, reportInFault_control]

/-- An update in FAULT leaves run control alone (R141). -/
theorem runUpdate_control_of_fault (fault : s.control.axisState = .fault) : (runUpdate c s).control = s.control := by
  have before := (beforeMix_without_run (c := c) (s := s) (by rw [fault]; rfl)).1
  have closed : (closeExchange c (mixed c s).state).control = s.control :=
    closeExchange_keeps (Q := fun t => t.control = s.control) ((mixed_control c s).trans before) fun cause t same =>
      (reportDrive_control_of_fault (same ▸ fault)).trans same
  obtain ⟨x, r, opens⟩ := sendRecord_opens (mixed c s).pair (closeExchange c (mixed c s).state)
  have exchanged : (exchangeStage c (mixed c s).pair (mixed c s).state).control = s.control := by
    rw [exchangeStage, opens]
    exact closed
  rw [runUpdate_eq, takeReports_stands (fun halted => nomatch (exchanged ▸ halted).symm.trans fault)
    (fun releasing => nomatch (exchanged ▸ releasing).symm.trans fault), exchanged]

/-- Into LIVE from a state at rest, whatever the clash marker says (R17, R33, R107). -/
theorem enterLiveAt_rested (x : Int) (active : s.stopInput = true) :
    let t := enterLiveAt x s
    t.control = keepRecords .live s.control ∧ t.blend.live = some x ∧ t.live.recentre = true := by
  intro t
  have entered : t = changeState .live (setRecentre { s with blend := { s.blend with live := some x } }) :=
    enterState_active .live _ active
  rw [entered]
  exact ⟨by simp, by simp, by simp⟩

/-- Settles O23: the stopping profile with each of its cuts written out, and what follows the mix stage. -/
theorem haltedNodeBrakesToRest : Obligations.HaltedNodeBrakesToRest := by
  intro c h n s running config timer history stopped last shed distance capped step
  let u : State := { s with blend := { s.blend with timer := some 0 } }
  obtain ⟨taken, control, limited, rests⟩ := mixed_stopped (c := c) (s := u) history stopped
  refine ⟨natAbs_brakeStep_le c s.blend.aStep h, brakeStep_mul_nonneg c s.blend.aStep h, _,
    exec_update running config timer, (runUpdate_history c u).trans taken, ?_, fun fault => ?_, fun halted quiet => ?_⟩
  · rw [runUpdate_limited]
    exact limited
  · exact runUpdate_control_of_fault (s := u) fault
  · obtain ⟨drive, exchanged⟩ := exchangeStage_quiet (c := c) (s := u) quiet
    let v : State := { (mixed c u).state with drive := drive }
    have st : v.control.axisState = .halted := (congrArg RunControl.axisState control).trans halted
    have stop : v.stopInput = s.stopInput := by
      change (mixed c u).state.stopInput = _
      rw [mixed_state]
      exact congrArg Steady.stopInput (steady_beforeMix c u)
    have reports : runUpdate c u = takeReports (mixed c u) v := (runUpdate_eq c u).trans (by rw [exchanged])
    rw [reports]
    split
    case isTrue ends =>
      obtain ⟨stands, active⟩ := ends
      have setpoint : presentSetpoint v.blend = h.prev := by
        rw [presentSetpoint, show v.blend.history = _ from taken]
        exact (congrArg (h.prev + ·) stands).trans (add_zero _)
      have enters : takeReports (mixed c u) v = enterLiveAt h.prev v := by
        rw [takeReports, st, rests.mpr stands, stop, active, setpoint]
        rfl
      obtain ⟨live, position, recentre⟩ := enterLiveAt_rested (s := v) h.prev (stop.trans active)
      rw [enters, live]
      exact ⟨rfl, rfl, position, recentre⟩
    case isFalse lasts =>
      have stays : takeReports (mixed c u) v = v := by
        rw [takeReports, st]
        exact if_neg fun ends => lasts (by rw [Bool.and_eq_true, rests, stop] at ends; exact ends)
      rw [stays]
      exact control

end Sys2Proof.Machine
end

section
/-! ## A release (R31, R115, R117, R128) -/

namespace Sys2Proof.Machine

variable {c : Configuration} {s t u : State}

/-! ### The path in RELEASING -/

/-- What the path of a run does in RELEASING: the run, the pace unit and the bus may change, and nothing else (R19). -/
def MovesOn (s t : State) : Prop :=
  ∃ run pace bus, t = { s with control := { s.control with run := run }, pace := pace, bus := bus }

theorem MovesOn.refl (s : State) : MovesOn s s := ⟨_, _, _, rfl⟩

theorem MovesOn.trans (first : MovesOn s t) (second : MovesOn t u) : MovesOn s u := by
  obtain ⟨_, _, _, rfl⟩ := first
  obtain ⟨run, pace, bus, rfl⟩ := second
  exact ⟨run, pace, bus, rfl⟩

theorem MovesOn.axisState (moves : MovesOn s t) : t.control.axisState = s.control.axisState := by
  obtain ⟨_, _, _, rfl⟩ := moves
  rfl

theorem movesOn_run (run : Option RunContext) (s : State) :
    MovesOn s { s with control := { s.control with run := run } } := ⟨run, _, _, rfl⟩

theorem movesOn_queuePace (s : State) : MovesOn s (queuePace s) := by
  unfold queuePace sendPace
  split
  · exact .refl s
  · exact ⟨_, _, _, rfl⟩

theorem movesOn_beginSegment (releasing : s.control.axisState = .releasing) (g : Segment) :
    MovesOn s (beginSegment g s) := by
  have still : ¬ (onSegment (fun _ => g) s).control.axisState = .waiting :=
    fun waits => nomatch releasing.symm.trans waits
  rw [beginSegment, if_neg still]
  exact (movesOn_run _ s).trans (movesOn_queuePace _)

theorem movesOn_stepEnd (releasing : s.control.axisState = .releasing) (m : Mark) : MovesOn s (stepEnd m s) := by
  rw [stepEnd, if_pos releasing]
  exact movesOn_run _ s

theorem movesOn_stepNext (releasing : s.control.axisState = .releasing) (m : Mark) : MovesOn s (stepNext m s) := by
  unfold stepNext
  split
  · exact movesOn_beginSegment releasing _
  · exact movesOn_stepEnd releasing m

theorem movesOn_stepLoop (releasing : s.control.axisState = .releasing) (n : MarkNo) (m : Mark) :
    MovesOn s (stepLoop n m s) := by
  unfold stepLoop
  split
  · dsimp only
    split
    · exact (movesOn_run _ s).trans (movesOn_beginSegment (by exact releasing) _)
    · exact (movesOn_run _ s).trans (movesOn_stepNext (by exact releasing) m)
  · exact movesOn_stepNext releasing m

/-- RELEASING passes stop marks over (R19). -/
theorem movesOn_stepStop (releasing : s.control.axisState = .releasing) (n : MarkNo) (m : Mark) :
    MovesOn s (stepStop n m s) := by
  rw [stepStop_passed fun stands => stands.2 releasing]
  exact movesOn_stepLoop releasing n m

theorem movesOn_stepDwell (releasing : s.control.axisState = .releasing) (n : MarkNo) (m : Mark) (served : Bool) :
    MovesOn s (stepDwell n m served s) := by
  unfold stepDwell
  split
  · exact movesOn_stepStop releasing n m
  · dsimp only
    split
    · exact (movesOn_run _ s).trans (movesOn_beginSegment (by exact releasing) _)
    · exact (movesOn_run _ s).trans (movesOn_stepStop (by exact releasing) n m)

/-- The segment held aside comes back without a wait (R19, R20). -/
theorem movesOn_handBack (releasing : s.control.axisState = .releasing) : MovesOn s (handBack s) := by
  unfold handBack
  split
  · exact .refl s
  · split
    · exact .refl s
    · rename_i r _ _ g _
      have back := (movesOn_run (some { r with segment := g, heldAside := none }) s).trans (movesOn_queuePace _)
      have still := back.axisState.trans releasing
      dsimp only
      split
      · exact back
      · split
        · exact back
        · exact (back.trans (movesOn_run _ _)).trans (movesOn_stepLoop (by exact still) _ _)
        · exact back.trans (movesOn_stepEnd still _)

theorem movesOn_takeArrival (releasing : s.control.axisState = .releasing) : MovesOn s (takeArrival s) := by
  unfold takeArrival
  split
  · exact .refl s
  · dsimp only
    split
    · exact movesOn_handBack releasing
    · exact movesOn_stepDwell releasing _ _ _

theorem movesOn_advancePath (releasing : s.control.axisState = .releasing) (r : RunContext) :
    MovesOn s (advancePath c r s).1 := by
  unfold advancePath
  dsimp only
  split
  · exact (movesOn_run _ s).trans (movesOn_takeArrival (by exact releasing))
  · exact movesOn_run _ s

theorem movesOn_pathStage (releasing : s.control.axisState = .releasing) : MovesOn s (pathStage c s).1 := by
  unfold pathStage
  split
  · exact .refl s
  · rw [releasing]
    dsimp only
    split
    · exact .refl s
    · exact movesOn_advancePath releasing _

/-! ### The update of a release -/

/-- In RELEASING the live stage leaves the trim (R105, R117). -/
theorem liveStage_trim_releasing (releasing : s.control.axisState = .releasing) :
    (liveStage c s).1.blend.trim = s.blend.trim := by
  have goes : incrementTo s.control = .livePosition := by rw [incrementTo, releasing]
  unfold liveStage
  dsimp only
  rw [goes]
  dsimp only
  split <;> rfl

/-- What a release runs on. -/
def releaseFigures (s : State) : AxisState × Option ArmRecord × Nat × Nat × Nat × Int × Bool :=
  (s.control.axisState, s.control.arm, s.blend.weight, s.blend.weightTarget, s.blend.weightStep, s.blend.trim,
    s.live.recentre)

theorem releaseFigures_of_movesOn (moves : MovesOn s t) : releaseFigures t = releaseFigures s := by
  obtain ⟨_, _, _, rfl⟩ := moves
  rfl

/-- Up to its mix stage the update of a release keeps what the release runs on. -/
theorem beforeMix_releasing (releasing : s.control.axisState = .releasing) :
    releaseFigures (beforeMix c s) = releaseFigures s := by
  have path := movesOn_pathStage (c := c) (s := paceWork c s) releasing
  have still := path.axisState.trans releasing
  have moved : releaseFigures (pathStage c (paceWork c s)).1 = releaseFigures s := releaseFigures_of_movesOn path
  rw [beforeMix]
  generalize (pathStage c (paceWork c s)).1 = p at still moved
  have checked : releaseFigures (paceCheck p) = releaseFigures p := by
    obtain ⟨_, _, _, checks⟩ := paceCheck_frame p
    rw [checks]
    rfl
  have trim := liveStage_trim_releasing (c := c) (s := paceCheck p) ((congrArg Prod.fst checked).trans still)
  obtain ⟨_, _, _, lived⟩ := liveStage_frame c (paceCheck p)
  rw [← moved, ← checked, releaseFigures, trim, lived]
  rfl

theorem stepWeight_to_zero (step weight : Nat) : stepWeight step weight 0 = weight - step := by
  rw [stepWeight, if_neg (Nat.not_lt_zero _), Nat.zero_max]

/-- What the mix stage makes of a release: the weight has fallen by its step, and the trim stands (R31, R115, R117). -/
theorem mixed_releasing {h : History} (releasing : s.control.axisState = .releasing)
    (history : s.blend.history = some h) (target : s.blend.weightTarget = 0) :
    let m := mixed c s
    m.state.blend.weight = s.blend.weight - s.blend.weightStep ∧ m.state.blend.trim = s.blend.trim ∧
      (m.weightAtZero = true ↔ s.blend.weight ≤ s.blend.weightStep) := by
  have figures := beforeMix_releasing (c := c) releasing
  have kept := (beforeMix_history c s).trans history
  simp only [releaseFigures, Prod.mk.injEq] at figures
  obtain ⟨still, -, weight, sameTarget, step, trim, -⟩ := figures
  rw [releasing] at still
  have moves : hasRun (beforeMix c s).control.axisState = true := by rw [still]; rfl
  rw [mixed, mixStage_steering (working_of_hasRun moves) kept]
  generalize (liveStage c (paceCheck (pathStage c (paceWork c s)).1)).2 = clamped
  generalize (pathStage c (paceWork c s)).2 = path
  let b : State := { beforeMix c s with blend := { (beforeMix c s).blend with limited := clamped } }
  obtain ⟨-, -, -, mixedWeight, mixedTrim⟩ := mixedUpdate_blend c path h b
  have fallen : stepWeight b.blend.weightStep b.blend.weight b.blend.weightTarget =
      s.blend.weight - s.blend.weightStep := by
    rw [show b.blend.weightTarget = 0 from sameTarget.trans target, stepWeight_to_zero]
    exact congrArg₂ (· - ·) weight step
  rw [if_pos (by exact moves), fallen] at mixedWeight
  rw [if_pos (by exact still)] at mixedTrim
  have reports : (mixedUpdate c path h b).weightAtZero = (b.control.axisState == .releasing &&
      (if hasRun b.control.axisState then stepWeight b.blend.weightStep b.blend.weight b.blend.weightTarget
        else 0) == 0) := rfl
  refine ⟨mixedWeight, mixedTrim.trans trim, ?_⟩
  rw [reports, if_pos (by exact moves), fallen, show b.control.axisState = _ from still]
  simp [Nat.sub_eq_zero_iff_le]

/-- Settles O25: the weight that the mix stage leaves, and what the reports make of it. -/
theorem releaseEndsInLive : Obligations.ReleaseEndsInLive := by
  intro c h r n s running config timer history releasing run active quiet target
  let u : State := { s with blend := { s.blend with timer := some 0 } }
  refine ⟨_, exec_update running config timer, ?_⟩
  have figures := beforeMix_releasing (c := c) (s := u) releasing
  simp only [releaseFigures, Prod.mk.injEq] at figures
  obtain ⟨still, arm, -, -, -, -, recentre⟩ := figures
  obtain ⟨weight, trim, ends⟩ := mixed_releasing (c := c) (s := u) releasing history target
  obtain ⟨drive, exchanged⟩ := exchangeStage_quiet (c := c) (s := u) quiet
  let v : State := { (mixed c u).state with drive := drive }
  have reports : runUpdate c u = takeReports (mixed c u) v := (runUpdate_eq c u).trans (by rw [exchanged])
  have mixedState := mixed_state c u
  have st : v.control.axisState = .releasing := by
    rw [show v.control = (beforeMix c u).control from mixed_control c u, still]
    exact releasing
  rw [reports, takeReports, st]
  dsimp only
  by_cases zero : s.blend.weight ≤ s.blend.weightStep
  · have stop : v.stopInput = true := by
      change (mixed c u).state.stopInput = _
      rw [mixedState]
      exact (congrArg Steady.stopInput (steady_beforeMix c u)).trans active
    have sameArm : v.control.arm = s.control.arm := (congrArg RunControl.arm (mixed_control c u)).trans arm
    have sameRecentre : v.live.recentre = s.live.recentre := (congrArg (·.live.recentre) mixedState).trans recentre
    rw [if_pos zero, if_pos (ends.mpr zero), enterState_active .live v stop]
    simp [keepRecords, working, hasRun, sendsPace, sameArm, sameRecentre]
  · rw [if_neg zero, if_neg fun reported => zero (ends.mp reported)]
    exact ⟨st, weight, trim⟩

end Sys2Proof.Machine
end

section
/-! ## The idle millisecond (logs 2, 3, 12 and 24)

A millisecond takes its events block by block, each where it is due; the statement takes them by one list of commands.
Both read the same timers, and the silent peers are those of the addresses in their order. -/

namespace Sys2Proof.Machine

variable {s u : State} {f : State → State} {i : Instr}

/-! ### One event -/

/-- What holds all along a millisecond. -/
abbrev Ticking (u : State) : Prop := u.startup.phase = .running ∧ PeersLawful u

theorem Ticking.event (e : Event f) (ticks : Ticking u) : Ticking (f u) :=
  ⟨(e.phase u).trans ticks.1, peersLawful_kept.event f e u ticks.1 ticks.2⟩

theorem Ticking.whenDue (e : Event f) (due : State → Bool) (ticks : Ticking u) : Ticking (whenDue due f u) := by
  unfold Machine.whenDue
  split
  · exact ticks.event e
  · exact ticks

/-- An event taken where it is due is its command taken where it has fallen due. -/
theorem takeWhenDue_event (means : ∀ s, exec i s = .next (whenRunning f s)) {due : State → Bool}
    (same : ∀ s, fallenDue s i = due s) (running : u.startup.phase = .running) :
    takeWhenDue u i = whenDue due f u := by
  rw [takeWhenDue_eq (means u) running, same]
  rfl

theorem whenDue_undue {due : State → Bool} (undue : due u = false) : whenDue due f u = u :=
  if_neg (by rw [undue]; nofun)

/-! ### The silent peers (R149) -/

/-- Whether the entry of an address is due to be lost. -/
abbrev lostDue (s : State) (a : Addr) : Bool := fallenDue s (.peerLost a)

/-- A change of one entry is no change of what is asked of another address. -/
theorem any_upsertPeer_other {a b : Addr} (other : b ≠ a) {change : PeerEntry → PeerEntry}
    (same : ∀ e, (change e).address = e.address) (p : PeerEntry → Bool) (l : List PeerEntry) :
    (upsertPeer a change l).any (fun e => e.address == b && p e) = l.any (fun e => e.address == b && p e) := by
  have foreign {e : PeerEntry} (own : e.address = a) : (e.address == b) = false :=
    beq_false_of_ne (own.trans_ne other.symm)
  induction l with
  | nil => simp [upsertPeer, foreign (e := change (newEntry a)) (same _)]
  | cons e rest ih =>
    rw [upsertPeer]
    split
    · rename_i own
      simp [foreign own, foreign ((same e).trans own)]
    · split
      · simp [foreign (e := change (newEntry a)) (same _)]
      · rw [List.any_cons, List.any_cons, ih]

theorem losePeer_peers (a : Addr) (s : State) :
    (losePeer a s).peers = s.peers ∨ (losePeer a s).peers = upsertPeer a loseEntry s.peers := by
  unfold losePeer
  split
  · dsimp only
    split
    · exact .inr (congrArg Steady.peers (steady_takeCountedLoss _))
    · exact .inr rfl
  · exact .inl rfl

/-- The loss of one peer leaves what is due of another. -/
theorem lostDue_losePeer_other {a b : Addr} (other : b ≠ a) (s : State) : lostDue (losePeer a s) b = lostDue s b := by
  have reads (u : State) : lostDue u b =
      u.peers.any fun e => e.address == b && (e.presence == .present && decide (1000 ≤ e.heardAge)) := by
    simp only [← Bool.and_assoc]
    rfl
  rw [reads, reads]
  rcases losePeer_peers a s with same | lost
  · rw [same]
  · rw [lost]
    exact any_upsertPeer_other (change := loseEntry) other (fun _ => rfl) _ _

/-- Addresses asked in turn lose the peers that were due at the start. -/
theorem foldl_peerLost {l : List Addr} (distinct : l.Nodup) (running : u.startup.phase = .running) :
    (l.map Instr.peerLost).foldl takeWhenDue u = (l.filter (lostDue u)).foldl (fun s a => losePeer a s) u := by
  induction l generalizing u with
  | nil => rfl
  | cons a rest ih =>
    obtain ⟨fresh, distinct⟩ := List.nodup_cons.mp distinct
    rw [List.map_cons, List.foldl_cons, takeWhenDue_eq (f := losePeer a) rfl running]
    by_cases due : lostDue u a = true
    · have others : rest.filter (lostDue (losePeer a u)) = rest.filter (lostDue u) :=
        List.filter_congr fun b listed => lostDue_losePeer_other (by rintro rfl; exact fresh listed) u
      rw [if_pos due, List.filter_cons_of_pos due, List.foldl_cons,
        ih distinct ((Event.phase (.losePeer a) u).trans running), others]
    · rw [if_neg due, List.filter_cons_of_neg due, ih distinct running]

/-- All addresses, in their order. -/
def allAddresses : List Addr := (List.range 32).map (BitVec.ofNat 5)

/-- Two lists of the same addresses in rising order are the same. -/
theorem eq_of_rising {l m : List Addr} (left : l.Pairwise fun a b => a.toNat < b.toNat)
    (right : m.Pairwise fun a b => a.toNat < b.toNat) (same : ∀ a, a ∈ l ↔ a ∈ m) : l = m := by
  have : Std.Antisymm fun a b : Addr => a.toNat < b.toNat := ⟨fun a b below above => absurd below above.asymm⟩
  have : Std.Irrefl fun a b : Addr => a.toNat < b.toNat := ⟨fun a => lt_irrefl a.toNat⟩
  exact left.eq_of_mem_iff right same

theorem allAddresses_rising : allAddresses.Pairwise fun a b => a.toNat < b.toNat := by decide

theorem ne_of_toNat_lt {a b : Addr} (below : a.toNat < b.toNat) : a ≠ b := fun same => below.ne (congrArg _ same)

theorem mem_allAddresses (a : Addr) : a ∈ allAddresses :=
  List.mem_map.mpr ⟨a.toNat, List.mem_range.mpr a.isLt, BitVec.ofNat_toNat _ _⟩

/-- The silent peers are the addresses due to be lost (R149). -/
theorem silentPeers_eq (lawful : PeersLawful u) : silentPeers u = allAddresses.filter (lostDue u) := by
  refine eq_of_rising (List.pairwise_map.mpr (lawful.rising.filter _)) (allAddresses_rising.filter _) fun a => ?_
  simp only [silentPeers, List.mem_map, List.mem_filter, mem_allAddresses, true_and, lostDue, fallenDue,
    List.any_eq_true, Bool.and_eq_true, beq_iff_eq, decide_eq_true_eq]
  exact ⟨fun ⟨e, ⟨listed, present, silent⟩, own⟩ => ⟨e, listed, ⟨own, present⟩, silent⟩,
    fun ⟨e, listed, ⟨own, present⟩, silent⟩ => ⟨e, ⟨listed, present, silent⟩, own⟩⟩

/-! ### Block by block -/

/-- The events of a list, each taken where it has fallen due. -/
abbrev takeAll (events : List Instr) (u : State) : State := events.foldl takeWhenDue u

/-- The mark of a value past its hold (R95; log 24). -/
def markRecord (r : ChannelRecord) : ChannelRecord := { r with stale := r.stale || decide (100 ≤ r.age) }

/-- The node with its dial value marked where it is past its hold. -/
def markDial (u : State) : State := { u with live := { u.live with dial := u.live.dial.map markRecord } }

theorem markRecord_stale {r : ChannelRecord} (stale : r.stale = true) : markRecord r = r := by
  rw [markRecord, stale, Bool.true_or, ← stale]

theorem markRecord_held {r : ChannelRecord} (held : ¬ 100 ≤ r.age) : markRecord r = r := by
  rw [markRecord, decide_eq_false held, Bool.or_false]

theorem whenDue_staleDial (u : State) : whenDue (fun s => staleDue s.live.dial) staleDial u = markDial u := by
  by_cases due : staleDue u.live.dial = true
  · obtain ⟨r, dial, old⟩ := (Option.any_eq_true _ _).mp due
    have past : 100 ≤ r.age := of_decide_eq_true (Bool.and_eq_true_iff.mp old).2
    have marked : markRecord r = { r with stale := true } := by rw [markRecord, decide_eq_true past, Bool.or_true]
    rw [whenDue, if_pos due, staleDial, markDial, dial, Option.map_some, Option.map_some, marked]
  · have kept : u.live.dial.map markRecord = u.live.dial := by
      rcases dial : u.live.dial with _ | r
      · rfl
      · have undue : r.stale = true ∨ ¬ 100 ≤ r.age := by
          rw [staleDue, dial] at due
          by_contra both
          obtain ⟨fresh, past⟩ := not_or.mp both
          exact due (Bool.and_eq_true_iff.mpr ⟨by simpa using fresh, decide_eq_true (not_not.mp past)⟩)
        rw [Option.map_some, undue.elim markRecord_stale markRecord_held]
    rw [whenDue, if_neg due, markDial, kept]

theorem fallenDue_stateInterval (s : State) :
    fallenDue s .stateInterval = hasReached (stateIntervalMs s.control.axisState) s.bus.stateTimer := by
  rw [fallenDue, hasReached]
  cases s.control.axisState <;> rfl

/-- A node comes to another by the events of a list, and ticks on. -/
def TakenBy (events : List Instr) (u v : State) : Prop := v = takeAll events u ∧ Ticking v

namespace TakenBy

variable {v : State} {events : List Instr}

theorem start (ticks : Ticking u) : TakenBy [] u u := ⟨rfl, ticks⟩

/-- One more event, in the block where it is due. -/
theorem whenDue (taken : TakenBy events u v) (e : Event f) (means : ∀ s, exec i s = .next (whenRunning f s))
    {due : State → Bool} (same : ∀ s, fallenDue s i = due s) : TakenBy (events ++ [i]) u (whenDue due f v) := by
  obtain ⟨reached, ticks⟩ := taken
  refine ⟨?_, ticks.whenDue e due⟩
  rw [takeAll, List.foldl_append, ← takeWhenDue_event means same ticks.1, reached]
  rfl

/-- The silent peers, one command after another. -/
theorem silentPeers (taken : TakenBy events u v) :
    TakenBy (events ++ allAddresses.map .peerLost) u ((silentPeers v).foldl (fun s a => losePeer a s) v) := by
  obtain ⟨reached, ticks⟩ := taken
  have lost := foldl_peerLost (allAddresses_rising.imp ne_of_toNat_lt) ticks.1
  refine ⟨?_, List.foldlRecOn _ _ ticks fun w hw a _ => hw.event (.losePeer a)⟩
  rw [silentPeers_eq ticks.2, takeAll, List.foldl_append, ← lost, reached]

end TakenBy

/-- The events of a millisecond after the dial's mark, in the order of log 3. -/
def lastEvents : List Instr :=
  .channelRelease .demand :: .channelRelease .dial :: (allAddresses.map Instr.peerLost).append
    [.grab, .leaseExpiry, .saveSlotWriteEnd, .configWriteEnd, .stateInterval, .update]

/-- The first events of a millisecond, up to a stale demand. -/
theorem first_events (ticks : Ticking u) : TakenBy [.settleTimerExpiry, .armExpiry, .demandStale] u
    (whenDue (fun s => staleDue s.live.demand) staleDemand (dueControl u)) := by
  have settled := (TakenBy.start ticks).whenDue .settle (i := .settleTimerExpiry) (fun _ => rfl)
    (due := fun s => hasReached settleMs s.control.settle) fun _ => rfl
  have expired := settled.whenDue .armExpiry (i := .armExpiry) (fun _ => rfl)
    (due := fun s => s.control.arm.any fun a => decide (armLifeMs ≤ a.age)) fun _ => rfl
  have stale := expired.whenDue .staleDemand (i := .demandStale) (fun _ => rfl)
    (due := fun s => staleDue s.live.demand) fun _ => rfl
  exact stale

/-- The last events of a millisecond, from the silent owners on. -/
theorem last_events (ticks : Ticking u) :
    let heard := whenDue (fun s => releaseDue s.live.dial) (releaseChannel .dial)
      (whenDue (fun s => releaseDue s.live.demand) (releaseChannel .demand) u)
    let lost := (silentPeers heard).foldl (fun s a => losePeer a s) heard
    TakenBy lastEvents u
      (dueClocks (dueStores (whenDue (fun s => hasReached grabMs s.live.grabTimer) grabExpiry lost))) := by
  have demand := (TakenBy.start ticks).whenDue (.releaseChannel .demand) (i := .channelRelease .demand) (fun _ => rfl)
    (due := fun s => releaseDue s.live.demand) fun _ => rfl
  have owners := demand.whenDue (.releaseChannel .dial) (i := .channelRelease .dial) (fun _ => rfl)
    (due := fun s => releaseDue s.live.dial) fun _ => rfl
  have grabbed := owners.silentPeers.whenDue .grab (i := .grab) (fun _ => rfl)
    (due := fun s => hasReached grabMs s.live.grabTimer) fun _ => rfl
  have released := grabbed.whenDue .lease (i := .leaseExpiry) (fun _ => rfl)
    (due := fun s => s.marks.edit.any fun e => decide (leaseMs ≤ e.lease)) fun _ => rfl
  have saved := released.whenDue .slotWrite (i := .saveSlotWriteEnd) (fun _ => rfl)
    (due := fun s => s.marks.save.any fun p => decide (slotWriteMs ≤ p.elapsed)) fun _ => rfl
  have stored := saved.whenDue .configWrite (i := .configWriteEnd) (fun _ => rfl)
    (due := fun s => s.startup.write.any fun w => decide (configWriteMs ≤ w.elapsed)) fun _ => rfl
  have told := stored.whenDue .stateInterval (i := .stateInterval) (fun _ => rfl) fallenDue_stateInterval
  have clocks := told.whenDue .update (i := .update) (fun _ => rfl) (due := updateDue) fun _ => rfl
  simp only [List.append_assoc, List.cons_append, List.nil_append] at clocks
  exact clocks

/-- The millisecond of a running node, event by event. -/
theorem tick_taken (ticks : Ticking s) :
    let t := takeAll [.settleTimerExpiry, .armExpiry, .demandStale] (oneMsLater s)
    tick s = takeAll lastEvents (markDial t) := by
  have aged : Ticking (ageAll s) := ⟨ticks.1, ticks.2.aged⟩
  rw [ageAll_eq_oneMsLater] at aged
  obtain ⟨first, held⟩ := first_events aged
  have marked := held.whenDue .staleDial fun s => staleDue s.live.dial
  rw [whenDue_staleDial] at marked
  obtain ⟨last, -⟩ := last_events marked
  rw [tick, ticks.1, ageAll_eq_oneMsLater]
  dsimp only [dueHeard]
  rw [whenDue_staleDial, last, first]

end Sys2Proof.Machine
end

section
/-! ## A millisecond in which nothing falls due, and one in which an arm record expires (R25, R41, R90 to R180) -/

namespace Sys2Proof.Machine

variable {s u : State}

/-! ### Nothing due -/

theorem any_map_eq_false {α β : Type} {x : Option α} {g : α → β} {p : β → Bool}
    (h : ∀ a, x = some a → p (g a) = false) : (x.map g).any p = false := by
  rcases x with _ | a
  · rfl
  · exact h a rfl

/-- A millisecond changes an age alone, by one at most (R95; log 24). -/
theorem olderRecord_frame (r : ChannelRecord) :
    (olderRecord r).stale = r.stale ∧ (olderRecord r).owner = r.owner ∧ (olderRecord r).age ≤ r.age + 1 := by
  unfold olderRecord
  split
  · exact ⟨rfl, rfl, Nat.le_succ _⟩
  · exact ⟨rfl, rfl, Nat.min_le_right _ _⟩

theorem staleDue_older {x : Option ChannelRecord} (h : ∀ r, x = some r → r.stale = true ∨ r.age + 1 < 100) :
    staleDue (x.map olderRecord) = false := by
  refine any_map_eq_false fun r held => Bool.and_eq_false_iff.mpr ?_
  obtain ⟨stale, -, age⟩ := olderRecord_frame r
  rw [stale, Bool.not_eq_false']
  exact (h r held).imp_right fun young => decide_eq_false (Nat.not_le.mpr (age.trans_lt young))

theorem releaseDue_older {x : Option ChannelRecord} (h : ∀ r, x = some r → r.owner = none ∨ r.age + 1 < 500) :
    releaseDue (x.map olderRecord) = false := by
  refine any_map_eq_false fun r held => Bool.and_eq_false_iff.mpr ?_
  obtain ⟨-, owner, age⟩ := olderRecord_frame r
  rw [owner]
  exact (h r held).imp (fun free => by rw [free]; rfl) fun heard =>
    decide_eq_false (Nat.not_le.mpr (age.trans_lt heard))

/-- A timer below its mark after a millisecond has not reached it. -/
theorem hasReached_upTo {time ceiling : Nat} {x : Option Nat} (h : ∀ n, x = some n → n + 1 < time) :
    hasReached time (x.map fun n => min ceiling (n + 1)) = false :=
  any_map_eq_false fun n timed => decide_eq_false (Nat.not_le.mpr ((Nat.min_le_right _ _).trans_lt (h n timed)))

theorem silentPeers_oneMsLater (heard : ∀ e ∈ s.peers, e.presence = .present → e.heardAge + 1 < 1000) :
    silentPeers (oneMsLater s) = [] := by
  refine List.map_eq_nil_iff.mpr (List.filter_eq_nil_iff.mpr fun older listed => ?_)
  obtain ⟨e, held, rfl⟩ := List.mem_map.mp listed
  rw [Bool.and_eq_true_iff]
  rintro ⟨present, silent⟩
  have young := heard e held (eq_of_beq present)
  have old : 1000 ≤ min 65535 (e.heardAge + 1) := of_decide_eq_true silent
  omega

theorem later_than_mark {elapsed mark ceiling : Nat} (below : elapsed + 1 < mark) :
    decide (mark ≤ min ceiling (elapsed + 1)) = false :=
  decide_eq_false (Nat.not_le.mpr ((Nat.min_le_right _ _).trans_lt below))

/-- A node that an event leaves, where it is not due on the node as it came. -/
theorem whenDue_still {v : State} {due : State → Bool} {f : State → State} (inner : v = u) (undue : due u = false) :
    whenDue due f v = u := by
  rw [inner, whenDue_undue undue]

theorem losePeers_still {v : State} (inner : v = u) (heard : silentPeers u = []) :
    (silentPeers v).foldl (fun s a => losePeer a s) v = u := by
  rw [inner, heard]
  rfl

/-- Where nothing falls due a millisecond is the ageing alone. -/
theorem tick_nothing_due (running : s.startup.phase = .running) (nothing : NothingDue s) : tick s = oneMsLater s := by
  have control : dueControl (oneMsLater s) = oneMsLater s :=
    whenDue_still (whenDue_still rfl (hasReached_upTo nothing.settle))
      (any_map_eq_false fun a held => later_than_mark (nothing.arm a held))
  have heard : dueHeard (oneMsLater s) = oneMsLater s := by
    dsimp only [dueHeard]
    exact whenDue_still (losePeers_still
      (whenDue_still (whenDue_still (whenDue_still (whenDue_still rfl
        (staleDue_older fun r held => nothing.stale r (.inl held)))
        (staleDue_older fun r held => nothing.stale r (.inr held)))
        (releaseDue_older fun r held => nothing.owner r (.inl held)))
        (releaseDue_older fun r held => nothing.owner r (.inr held)))
      (silentPeers_oneMsLater nothing.peers)) (hasReached_upTo nothing.grab)
  have stores : dueStores (oneMsLater s) = oneMsLater s := by
    dsimp only [dueStores]
    exact whenDue_still (whenDue_still (whenDue_still rfl
      (any_map_eq_false fun e held => later_than_mark (nothing.lease e held)))
      (any_map_eq_false fun p held => later_than_mark (nothing.slot p held)))
      (any_map_eq_false fun w held => later_than_mark (nothing.write w held))
  have interval (n : Nat) (timed : s.bus.stateTimer = some n) : n + 1 < stateIntervalMs s.control.axisState := by
    have below := nothing.state n timed
    revert below
    cases s.control.axisState <;> exact id
  have period : updateDue (oneMsLater s) = false := by
    rcases config : s.startup.config with _ | c
    · rw [updateDue, show (oneMsLater s).startup.config = none from config]; rfl
    · rw [updateDue, show (oneMsLater s).startup.config = some c from config]
      exact any_map_eq_false fun n timed => decide_eq_false (Nat.not_le.mpr (nothing.update c n config timed))
  have clocks : dueClocks (oneMsLater s) = oneMsLater s :=
    whenDue_still (whenDue_still rfl (hasReached_upTo interval)) period
  rw [tick, running]
  dsimp only
  rw [ageAll_eq_oneMsLater, control, heard, stores, clocks]

/-! ### An arm record that expires -/

/-- The arm record is gone, and its expiry is the cue result (R41). -/
def Expired (s : State) : Prop := s.control.arm = none ∧ s.control.cueResult = .expired

namespace Expired

theorem congr {t : State} (h : Expired s) (arm : t.control.arm = s.control.arm)
    (cueResult : t.control.cueResult = s.control.cueResult) : Expired t := ⟨arm.trans h.1, cueResult.trans h.2⟩

theorem same {t : State} (h : Expired s) (control : t.control = s.control) : Expired t :=
  h.congr (congrArg RunControl.arm control) (congrArg RunControl.cueResult control)

/-- A change of axis state brings no arm record (R21). -/
theorem changeState (new : AxisState) (h : Expired s) : Expired (changeState new s) := by
  rw [Expired, changeState_control]
  refine ⟨?_, h.2⟩
  change (if working new then s.control.arm else none) = none
  rw [h.1, ite_self]

theorem haltNode (cause : Cause) (h : Expired s) : Expired (haltNode cause s) :=
  changeState .halted (s := { s with control := { s.control with haltCause := some cause } }) h

theorem enterState (new : AxisState) (h : Expired s) : Expired (enterState new s) := by
  rcases enterState_cases new s with changed | ⟨-, -, halted⟩
  · rw [changed]; exact h.changeState new
  · rw [halted]; exact (h.changeState new).haltNode _

theorem enterLiveAt (x : Int) (h : Expired s) : Expired (enterLiveAt x s) :=
  enterState .live (s := setRecentre { s with blend := { s.blend with live := some x } }) h

theorem reportDrive (cause : FaultCause) (h : Expired s) : Expired (reportDrive cause s) := by
  have faulted : Expired (enterFault cause s) := by
    rw [enterFault]
    refine Expired.same ?_ (queueHalt_control _ _)
    exact changeState .fault h
  exact reportDrive_cases (Q := Expired) cause h
    (reportFault_cases (Q := Expired) cause h (fun _ _ => h) (fun _ _ => h) faulted)

/-- An arrival takes no cue (R13 to R20). -/
theorem keptByArrivals : KeptByArrivals Expired where
  edit _ _ _ _ h := h
  told _ h := h.same (queuePace_control _)
  enters _ new _ h := h.enterState new
  latches _ h := h.enterLiveAt _

theorem exchangeStage (c : Configuration) (pair : Option (Int × Int)) (h : Expired s) :
    Expired (exchangeStage c pair s) := by
  have closed : Expired (closeExchange c s) :=
    closeExchange_keeps (Q := Expired) h fun cause _ => reportDrive cause
  obtain ⟨_, _, sent⟩ := sendRecord_opens pair (closeExchange c s)
  rw [Machine.exchangeStage, sent]
  exact closed

theorem takeReports (m : MixResult) (h : Expired s) : Expired (takeReports m s) := by
  unfold Machine.takeReports
  split
  · split
    · exact h.enterLiveAt _
    · exact h
  · split
    · exact h.enterState .live
    · exact h
  · exact h

theorem update (h : Expired s) : Expired (update s) := by
  unfold Machine.update
  split
  case h_2 => exact h
  case h_1 c _ _ _ =>
    let u : State := { s with blend := { s.blend with timer := some 0 } }
    have path : Expired (pathStage c (paceWork c u)).1 := by
      rcases pathStage_cases c (paceWork c u) with same | ⟨-, r, moved | arrived⟩
      · rw [same]; exact h
      · rw [moved]; exact h
      · rw [arrived]; exact keptByArrivals.takeArrival (s := withRun r (paceWork c u)) h
    have before : Expired (beforeMix c u) := path.same (beforeMix_control c u)
    rw [runUpdate_eq]
    exact ((before.same (mixed_control c u)).exchangeStage c _).takeReports _

theorem losePeer (a : Addr) (h : Expired s) : Expired (losePeer a s) := by
  unfold Machine.losePeer
  split
  · dsimp only
    split
    · unfold takeCountedLoss
      split
      · exact enterState .holding (s := { s with
          peers := _, pace := _, control := { s.control with holdCause := some .peerLost } }) h
      · exact h
    · exact h
  · exact h

theorem losePeers (l : List Addr) (h : Expired s) : Expired (l.foldl (fun s a => Machine.losePeer a s) s) :=
  List.foldlRecOn l _ h fun _ kept a _ => kept.losePeer a

theorem grabExpiry (h : Expired s) : Expired (grabExpiry s) := by
  have released : Expired (Machine.enterState .releasing { s with
      control := { s.control with stack := [] }, blend := { s.blend with weightTarget := 0 },
      live := { s.live with grabTimer := none, remainder := 0 } }) := enterState .releasing h
  unfold Machine.grabExpiry takeGrab
  split
  · split
    · exact released
    · exact released
    · exact h
  · exact h

theorem configWriteEnd (h : Expired s) : Expired (configWriteEnd s) := by
  unfold Machine.configWriteEnd
  split
  · exact h
  · dsimp only
    rw [enterWaking_eq]
    exact changeState .waking h

theorem stateInterval (h : Expired s) : Expired (stateInterval s) := by
  unfold Machine.stateInterval
  split
  · exact h.same (queueState_control s)
  · exact h

theorem staleDemand (h : Expired s) : Expired (staleDemand s) := by
  unfold Machine.staleDemand
  split <;> exact h

theorem slotWriteEnd (h : Expired s) : Expired (slotWriteEnd s) := by
  obtain ⟨_, _, ended⟩ := slotWriteEnd_frame s
  rw [ended]
  exact h

theorem whenDue {f : State → State} (keeps : ∀ {u}, Expired u → Expired (f u)) (due : State → Bool) (h : Expired s) :
    Expired (whenDue due f s) := by
  unfold Machine.whenDue
  split
  · exact keeps h
  · exact h

/-- Nothing else in a millisecond answers a cue (R41). -/
theorem later_events (h : Expired s) : Expired (dueClocks (dueStores (dueHeard s))) := by
  have owners := (((h.whenDue staleDemand fun s => staleDue s.live.demand).whenDue (f := staleDial) id
    fun s => staleDue s.live.dial).whenDue (f := releaseChannel .demand) id fun s => releaseDue s.live.demand).whenDue
    (f := releaseChannel .dial) id fun s => releaseDue s.live.dial
  have heard : Expired (dueHeard s) := (owners.losePeers _).whenDue grabExpiry _
  have stored : Expired (dueStores (dueHeard s)) :=
    ((heard.whenDue (f := leaseEnd) id _).whenDue slotWriteEnd _).whenDue configWriteEnd _
  exact (stored.whenDue stateInterval _).whenDue update _

end Expired

theorem expired_armExpiry {a : ArmRecord} (arm : s.control.arm = some a) : Expired (armExpiry s) := by
  have dropped : Expired { s with control := { s.control with arm := none, cueResult := .expired } } := ⟨rfl, rfl⟩
  rw [armExpiry_of_arm arm]
  dsimp only
  split
  · exact dropped.enterState .live
  · exact dropped

/-- No settle timer runs beside an arm record (R21, R25). -/
theorem settle_of_arm {a : ArmRecord} (fits : RecordsFit s) (arm : s.control.arm = some a) :
    s.control.settle = none := by
  have steers : working s.control.axisState = true := fits.arm_allowed (by rw [arm]; rfl)
  have awake : (s.control.axisState == .waking) = false := by
    revert steers
    cases s.control.axisState <;> simp [working]
  exact Option.isNone_iff_eq_none.mp (Option.isSome_eq_false_iff.mp (fits.settle_timer.trans awake))

/-- An arm record in its last millisecond expires (R41). -/
theorem tick_expires {a : ArmRecord} (running : s.startup.phase = .running) (fits : RecordsFit s)
    (arm : s.control.arm = some a) (last : 29999 ≤ a.age) : Expired (tick s) := by
  let older : ArmRecord := { a with age := min 30000 (a.age + 1) }
  have held : (oneMsLater s).control.arm = some older := congrArg (Option.map _) arm
  have settled : whenDue (fun s => hasReached settleMs s.control.settle) settleExpiry (oneMsLater s) = oneMsLater s :=
    whenDue_undue (congrArg (hasReached settleMs) (congrArg (Option.map _) (settle_of_arm fits arm)))
  have due : ((oneMsLater s).control.arm.any fun a => decide (armLifeMs ≤ a.age)) = true := by
    rw [held]
    exact decide_eq_true (show 30000 ≤ min 30000 (a.age + 1) by omega)
  have expired : Expired (dueControl (oneMsLater s)) := by
    rw [dueControl, settled, whenDue, if_pos due]
    exact expired_armExpiry held
  rw [tick, running]
  dsimp only
  rw [ageAll_eq_oneMsLater]
  exact expired.later_events

/-- Settles O3, by `tick` in each phase: the events of a list, the ageing alone, and what keeps an expiry. -/
theorem idleStepIsAMillisecond : Obligations.IdleStepIsAMillisecond := by
  intro s idle
  have ticks : step s = .next (tick s) := by rw [step, idle]
  rw [ticks]
  refine ⟨fun asserted => ?_, fun n loading early => ?_, fun n loading late => ?_,
    fun running nothing => congrArg _ (tick_nothing_due running nothing), fun running lawful => ?_,
    fun a running fits arm last => ?_⟩
  · rw [tick, asserted]
  · rw [tick, loading]
    exact congrArg _ (if_neg (Nat.not_le.mpr (Nat.succ_lt_succ early)))
  · rw [tick, loading]
    exact congrArg _ (if_pos (Nat.succ_le_succ late))
  · intro first peers last t dial
    have listed : last = lastEvents := by
      dsimp only [last, peers, lastEvents, allAddresses]
      rw [List.map_map]
      rfl
    rw [listed]
    exact congrArg _ (tick_taken ⟨running, lawful⟩)
  · obtain ⟨dropped, answered⟩ := tick_expires running fits arm last
    exact ⟨_, rfl, dropped, answered⟩

end Sys2Proof.Machine
end
